-- ==== Sys2Proof/Word.lean ====
section
/-! DEFINITION. The bytes and words of the JN-44C.
Bit vectors hold what the manual treats as bits: bytes on the link, check words, tags, fingerprints and
16-bit two's complement samples. Addresses, counts and gains are numbers (`Nat`). -/

namespace Sys2Proof

/-- One byte of a frame, or of a payload area. -/
abbrev Byte := BitVec 8

/-- A CRC-16 value: a stored check word, a payload CRC or a list signature (R21). -/
abbrev CheckWord := BitVec 16

/-- One audio sample, 16-bit two's complement (spec/00 section 6, Arithmetic). -/
abbrev Sample := BitVec 16

/-- A disc block address, 0 to 16,777,215. -/
abbrev Addr := Nat

/-- The index of a play list entry, 0 to 63 (R109). -/
abbrev SegmentIndex := Fin 64

/-- The index of a concealment profile, 0 to 3 (R131). -/
abbrev ProfileIndex := Fin 4

/-- The 4-bit tag of a SEEK and its SEEK_DONE (R64). -/
abbrev Tag := BitVec 4

/-- A disc fingerprint (R171). -/
abbrev Fingerprint := BitVec 32

end Sys2Proof
end

