-- ==== Sys2Proof/Config.lean ====
section
/-! DEFINITION. The sizes the silicon fixes. The spec leaves no value of this part open to an implementation,
so no constant here is free; what firmware configures is the configuration record, which is state. -/

namespace Sys2Proof.Config

/-- Sample pairs of one block, and sample periods of one block period (R113). -/
def pairsPerBlock : Nat := 480

/-- Bytes of one payload and of one payload area (R3). -/
def areaBytes : Nat := 1920

/-- Bytes of the external DRAM, 4 MiB (R3). -/
def dramBytes : Nat := 4194304

/-- Physical slots of the Block Store (spec/01 section 1.1). -/
def slotCount : Nat := 2048

/-- The number of block addresses, 24 bits (spec/00 section 5). -/
def addressCount : Nat := 16777216

/-- Entries of the Fault List (R93). -/
def faultCapacity : Nat := 32

/-- Entries of the Report Queue (R190). -/
def reportCapacity : Nat := 16

/-- Records of the Resume Table (R172). -/
def resumeCapacity : Nat := 8

/-- Unity gain (R133). -/
def unity : Nat := 32768

/-- The longest body of a control frame (R27). -/
def maxBody : Nat := 60

end Sys2Proof.Config
end

