-- ==== Sys2Proof/Syntax.lean ====
section
/-! DEFINITION. The commands of the JN-44C: one constructor of `Instr` for each row of spec/opcode_table.json.
A command carries what reaches the part with it: the fields of a frame, the bytes of a body after its code, the
level of a pin, or what the external DRAM lost by itself. -/

namespace Sys2Proof

/-- The level of the tray sense line: low while the tray is open, high while it is closed (R162). -/
inductive TrayLine where
  | low
  | high
  deriving DecidableEq, Repr

/-- The status byte of a SEEK_DONE that passed R29: 00h LOCKED, 01h FAILED. -/
inductive SeekStatus where
  | locked
  | failed
  deriving DecidableEq, Repr

/-- A SECTOR frame that passed its kind and length tests, field by field in the layout of R33. -/
structure SectorFrame where
  /-- bytes 1 to 3 -/
  copyA : BitVec 24
  /-- byte 4, the quality code of R34 -/
  quality : Byte
  /-- bytes 6 to 1,925 -/
  payload : List Byte
  /-- bytes 1,926 to 1,928 -/
  copyB : BitVec 24
  /-- bytes 1,929 to 1,931 -/
  copyC : BitVec 24
  /-- bytes 1,932 to 1,933 -/
  check : CheckWord
  deriving DecidableEq, Repr

/-- The commands and events of the part, one for each row of the table, in the table's order.
`params` are the body bytes after the command code, `record` the body bytes after the format byte,
`body` a whole body, `unit` a whole forward unit (R26, R33, R192). `upset` lists the DRAM bytes that
changed by themselves since the last command (log 10). -/
inductive Instr where
  | hardReset (line : TrayLine)
  | refusedForwardUnit (unit : List Byte)
  | sector (frame : SectorFrame)
  | seekDone (tag : Tag) (status : SeekStatus)
  | play (params : List Byte)
  | pause (params : List Byte)
  | resume (params : List Byte)
  | stop (params : List Byte)
  | setLevel (params : List Byte)
  | setStop (params : List Byte)
  | setRepeat (params : List Byte)
  | cue (params : List Byte)
  | identify (params : List Byte)
  | ackTray (params : List Byte)
  | clearTimebase (params : List Byte)
  | queryStatus (rest : List Byte)
  | queryTable (params : List Byte)
  | softReset (params : List Byte)
  | segmentLoad (record : List Byte)
  | profileLoad (record : List Byte)
  | configLoad (record : List Byte)
  | resumeLoad (record : List Byte)
  | openEdge
  | closeEdge
  | samplePeriod (upset : List (Nat × Byte))
  | blockPeriodEnd
  | watchdogExpiry
  | settleEnd
  | periodicPosition
  | stopCompletion
  | pausedEntry
  | saveStep
  | dropped (upset : List (Nat × Byte))
  | startTestPass
  | starvedRecovery
  | refill
  | placeholderRun
  | seekSend
  | readPauseSend
  | reportSend
  | reverseFrameEnd
  | unknownCommandCode (body : List Byte)
  | unknownTableFormat (body : List Byte)
  deriving DecidableEq, Repr

end Sys2Proof
end

