-- ==== Sys2Proof/Machine/Codec.lean ====
section
/-! DEFINITION. Check words, byte order and the control frame envelope (R21, R28, R33). -/

namespace Sys2Proof.Machine

/-- One shift of the CRC-16 register: combined with 1021h when the bit shifted out was 1 (R21). -/
def crc16Shift (r : CheckWord) : CheckWord :=
  if r.msb then (r <<< 1) ^^^ 0x1021#16 else r <<< 1

/-- One byte into the CRC-16 register: into its upper eight bits, then eight shifts (R21). -/
def crc16Byte (r : CheckWord) (b : Byte) : CheckWord :=
  Nat.repeat crc16Shift 8 (r ^^^ (b.setWidth 16 <<< 8))

/-- The CRC-16 of this part: x^16 + x^12 + x^5 + 1 from FFFFh, not reflected, not inverted (R21). -/
def crc16 (bytes : List Byte) : CheckWord :=
  bytes.foldl crc16Byte 0xFFFF#16

/-- One shift of the CRC-8 register: combined with 31h when the bit shifted out was 1 (R28). -/
def crc8Shift (r : Byte) : Byte :=
  if r.msb then (r <<< 1) ^^^ 0x31#8 else r <<< 1

/-- One byte into the CRC-8 register (R28). -/
def crc8Byte (r : Byte) (b : Byte) : Byte :=
  Nat.repeat crc8Shift 8 (r ^^^ b)

/-- The CRC-8 of control frames: x^8 + x^5 + x^4 + 1 from 00h (R28). -/
def crc8 (bytes : List Byte) : Byte :=
  bytes.foldl crc8Byte 0x00#8

/-- A number read from bytes, high byte first (spec/00 section 6, Byte order). -/
def beNat (bytes : List Byte) : Nat :=
  bytes.foldl (fun n b => n * 256 + b.toNat) 0

/-- The low `width` bytes of a number, high byte first (spec/00 section 6, Byte order). -/
def beBytes : (width : Nat) → Nat → List Byte
  | 0, _ => []
  | w + 1, n => BitVec.ofNat 8 (n / 256 ^ w) :: beBytes w n

/-- One byte holding a number below 256. -/
def byteOf (n : Nat) : Byte := BitVec.ofNat 8 n

/-- A flag on the link: 00h clear, 01h set (R192). -/
def flagByte (b : Bool) : Byte := if b then 0x01#8 else 0x00#8

/-- A flag read in a TABLE load: clear for 00h, set for any other value (R192). -/
def flagOf (b : Byte) : Bool := b != 0x00#8

/-- One sample from its two bytes, low byte first (R33). -/
def sampleOf (low high : Byte) : Sample := high ++ low

/-- A control frame of n + 3 bytes: kind, body length, body, CRC-8 over all of these (R33, R28). -/
def controlFrame (kind : Byte) (body : List Byte) : List Byte :=
  let head := kind :: byteOf body.length :: body
  head ++ [crc8 head]

end Sys2Proof.Machine
end

