-- ==== Sys2Proof/Machine/State.lean ====
section
/-! DEFINITION. Every piece of state the spec gives the JN-44C, block by block as spec/00 section 3.1 lists the
blocks, and the state after a hard reset. Plain data throughout. -/

namespace Sys2Proof.Machine

/-! ### Names of states, causes and outcomes, in the order in which the spec lists them (R192). -/

/-- The play state (R111). -/
inductive PlayState where
  | idle | priming | playing | pausing | paused | starved | stopping | trayHold | halted
  deriving DecidableEq, Repr

/-- The fill state (R62). -/
inductive FillState where
  | stopped | seeking | relocking | tracking | pausedFull | abandonWait | ended | halted
  deriving DecidableEq, Repr

/-- The tray state (R165). -/
inductive TrayState where
  | closed | fading | opened | settling | awaitId
  deriving DecidableEq, Repr

/-- The quality of a stored block (R2). -/
inductive Quality where
  | clean | repaired | damaged | missing
  deriving DecidableEq, Repr

/-- The outcome of a resolved address vote (R36). -/
inductive Vote where
  | clean | noisy
  deriving DecidableEq, Repr

/-- The reason a seek is wanted, with the SEEK codes 01h to 06h (R65). -/
inductive Reason where
  | start | segment | resume | skip | refill | repair
  deriving DecidableEq, Repr

/-- The long action of a profile (R131). -/
inductive LongAction where
  | fade | mute | drop
  deriving DecidableEq, Repr

/-- The kind of a concealment plan (R141). -/
inductive PlanKind where
  | ramp | fade | mute | drop
  deriving DecidableEq, Repr

/-- The phase of a DROP plan (R147). -/
inductive DropPhase where
  | fading | dropped
  deriving DecidableEq, Repr

/-- What a run's first slot was (R142). -/
inductive FirstSlot where
  | damaged | missing | check
  deriving DecidableEq, Repr

/-- Where the fade step comes from (R133). -/
inductive StepSource where
  | currentProfile | fixed
  deriving DecidableEq, Repr

/-- The position report mode (R187). -/
inductive PositionMode where
  | off | segment | periodic
  deriving DecidableEq, Repr

/-- The tray sensitivity (R164). -/
inductive Sensitivity where
  | edge | edgeAndLevel
  deriving DecidableEq, Repr

/-- The first failed check of a refused forward unit (R30). -/
inductive CheckCause where
  | kind | length | crc | body
  deriving DecidableEq, Repr

/-- The frame a RESULT answers (R179). -/
inductive FrameSource where
  | command | table
  deriving DecidableEq, Repr

/-- The outcome of a RESULT (R179). -/
inductive ResultCode where
  | done | busy | invalid | inUse | format | tray | halted
  deriving DecidableEq, Repr

/-- The cause of a POSITION report (R126). -/
inductive PositionCause where
  | segment | periodic
  deriving DecidableEq, Repr

/-- The outcome of a RESUME report (R175). -/
inductive ResumeOutcome where
  | resumed | refusedFormat | refusedPosition | noRecord
  deriving DecidableEq, Repr

/-! ### The Command and Table Unit -/

/-- One play list entry (R109). -/
structure PlayEntry where
  first : Addr
  last : Addr
  profile : ProfileIndex
  valid : Bool
  eol : Bool
  deriving DecidableEq, Repr

/-- One concealment profile, held clamped (R131). -/
structure Profile where
  rampLimit : Nat
  longAction : LongAction
  fadeCode : Nat
  repairEnable : Bool
  repairLead : Nat
  deriving DecidableEq, Repr

/-- The configuration record (R187). The first four fields are held as received, the others clamped. -/
structure ConfigRecord where
  depth : Nat
  highMargin : Nat
  refill : Nat
  start : Nat
  window : Nat
  runIn : Nat
  retryLimit : Nat
  skipAhead : Nat
  abandonLimit : Nat
  attemptLimit : Nat
  watchdogCode : Nat
  settle : Nat
  mask : Nat
  positionMode : PositionMode
  sensitivity : Sensitivity
  deriving DecidableEq, Repr

/-- The tables and flags of the Command and Table Unit (R109, R110, R131, R187). -/
structure Tables where
  playList : Vector PlayEntry 64
  profiles : Vector Profile 4
  config : ConfigRecord
  /-- `none` is NONE (255) -/
  stopIndex : Option SegmentIndex
  repeatFlag : Bool
  cueFlag : Bool
  deriving DecidableEq, Repr

/-! ### The Block Store and the Fault List -/

/-- The record of a held slot (R1). -/
structure Slot where
  address : Addr
  segment : SegmentIndex
  quality : Quality
  cutAfter : Bool
  /-- absent when the quality is MISSING -/
  check : Option CheckWord
  listed : Bool
  deriving DecidableEq, Repr

/-- The Block Store (R1 to R20). `slots` are the held slots by position, the head first;
position `i` is physical slot `(head + i) mod depth` (R5). The four values after `head` are those in force. -/
structure Store where
  slots : List Slot
  head : Nat
  depth : Nat
  highWater : Nat
  refill : Nat
  start : Nat
  pendingDepth : Option Nat
  /-- the payload areas: addresses strictly rising, no byte that reads 0 (log 9) -/
  dram : List Host.Cell
  deriving DecidableEq, Repr

/-- One Fault List entry (R93). -/
structure FaultEntry where
  slot : Nat
  address : Addr
  segment : SegmentIndex
  attempts : Nat
  deriving DecidableEq, Repr

/-! ### The Link Interface -/

/-- A SEEK that waits to be sent (R40). -/
structure SeekRequest where
  tag : Tag
  target : Addr
  reason : Reason
  deriving DecidableEq, Repr

/-- The Link Interface (R38, R40 to R42). -/
structure Link where
  /-- the frame being sent on the reverse direction -/
  sending : Option (List Byte)
  /-- the pending SEEK slot -/
  seek : Option SeekRequest
  /-- the pending READ_PAUSE flag -/
  pause : Bool
  /-- the noisy-vote count -/
  noisy : Nat
  deriving DecidableEq, Repr

/-! ### The Position Tracker and the Recovery Controller -/

/-- The Position Tracker (R44). -/
structure Tracker where
  /-- the expected address E -/
  expected : Addr
  /-- the fill segment -/
  segment : SegmentIndex
  /-- the consecutive-append count -/
  run : Nat
  deriving DecidableEq, Repr

/-- The fault a REPAIR is for (R63). -/
structure FaultRef where
  address : Addr
  segment : SegmentIndex
  deriving DecidableEq, Repr

/-- The cause fields of the recovery in progress (R63). -/
structure ActiveCause where
  reason : Reason
  /-- present for a REPAIR only -/
  fault : Option FaultRef
  /-- the target of the last SEEK issued -/
  target : Addr
  deriving DecidableEq, Repr

/-- A placeholder run owed in ABANDON_WAIT (R81). -/
structure OwedRun where
  first : Addr
  length : Nat
  deriving DecidableEq, Repr

/-- The Recovery Controller (R62 to R64). -/
structure Recovery where
  state : FillState
  /-- the seek tag counter: the tag issued last -/
  tag : Tag
  outstanding : Option Tag
  active : Option ActiveCause
  retry : Nat
  abandon : Nat
  owed : Option OwedRun
  deriving DecidableEq, Repr

/-! ### The Timebase and Recovery Timer -/

/-- The timebase and the recovery watchdog (R153, R155). The last three fields are the model's own: what a
rise presented and a command of its own has still to take (log 4, 5). -/
structure Timer where
  count : Nat
  watchdog : Nat
  armed : Bool
  expiryDue : Bool
  settleDue : Bool
  positionDue : Bool
  deriving DecidableEq, Repr

/-! ### The Gain Unit -/

/-- A left and a right sample, output in the same sample period. -/
structure Pair where
  left : Sample
  right : Sample
  deriving DecidableEq, Repr

/-- The pair of two zero samples. -/
def Pair.zero : Pair := ⟨0, 0⟩

/-- The Gain Unit (R133). -/
structure Gain where
  /-- the fade gain g -/
  fade : Nat
  target : Nat
  step : Nat
  source : StepSource
  requested : Nat
  applied : Nat
  lastPair : Pair
  deriving DecidableEq, Repr

/-! ### The Output Sequencer -/

/-- A play position: segment, address and sample offset. -/
structure Position where
  segment : SegmentIndex
  address : Addr
  offset : Nat
  deriving DecidableEq, Repr

/-- The play cursor (R112). `next` is a cursor that has passed to the slot now at the head and makes it the
head for output in the next sample period (R118); `head off` is a cursor that has a head, at the offset of the
pair it hands on next; `finished` has a head too, whose last pair, at offset 479, has been handed on and whose
consume is held back by a completed fade (R122, log 12, 19). -/
inductive Cursor where
  | none
  | waiting
  | next
  | head (offset : Nat)
  | finished
  deriving DecidableEq, Repr

/-- The concealment plan (R141). `left` counts the run slots not yet consumed and `lateCut` marks a cut fade
begun at the run's first sample (R149); both are the model's own. -/
structure Plan where
  kind : PlanKind
  firstSlot : Nat
  firstOffset : Nat
  runLength : Nat
  samples : Nat
  profile : ProfileIndex
  anchorA : Pair
  anchorB : Pair
  fadeStep : Option Nat
  progress : Nat
  fadedOut : Bool
  phase : DropPhase
  left : Nat
  lateCut : Bool
  deriving DecidableEq, Repr

/-- The Output Sequencer (R111 to R113). `afterCut` and `lastPlayed` are the model's own (log 14, 15);
`audio` is the audio output port. -/
structure Output where
  play : PlayState
  cursor : Cursor
  startOffset : Nat
  buffer : List Pair
  cursorSegment : Option SegmentIndex
  plan : Option Plan
  /-- sample periods counted toward the next block period end; 480 means the end is due -/
  samples : Nat
  afterCut : Bool
  lastPlayed : Addr
  audio : Pair
  deriving DecidableEq, Repr

/-! ### The Tray Unit -/

/-- One resume record (R172). -/
structure ResumeRecord where
  fingerprint : Fingerprint
  signature : CheckWord
  position : Position
  level : Nat
  repeatFlag : Bool
  deriving DecidableEq, Repr

/-- The Tray Unit (R162, R165, R168, R171, R172). -/
structure Tray where
  /-- the tray sense line, an input pin -/
  line : TrayLine
  state : TrayState
  pendingFlag : Bool
  edges : Nat
  fingerprint : Option Fingerprint
  /-- the Resume Table, most recently used first -/
  records : List ResumeRecord
  saved : Option Position
  deriving DecidableEq, Repr

/-! ### The Report Unit -/

/-- The fields of a STATUS reply (R182). -/
structure StatusReply where
  play : PlayState
  fill : FillState
  tray : TrayState
  headAddress : Addr
  offset : Nat
  count : Nat
  depth : Nat
  faults : Nat
  retry : Nat
  abandon : Nat
  level : Nat
  fingerprint : Option Fingerprint
  noisy : Nat
  deriving DecidableEq, Repr

/-- A report with the fields of R193. The TRAY report's edge count is filled when its frame begins (R163). -/
inductive Report where
  | result (source : FrameSource) (code : Byte) (outcome : ResultCode) (present : Bool)
  | status (fields : StatusReply)
  | tableReply (format index : Byte) (record : Option (List Byte))
  | frameCheck (kind : Byte) (cause : CheckCause)
  | lateAnswer (tag : Tag) (status : SeekStatus)
  | skipDetected (arrived expected : Addr) (segment : SegmentIndex) (vote : Vote)
  | repaired (address : Addr) (segment : SegmentIndex) (quality : Quality) (attempts : Option Nat) (distance : Nat)
  | concealed (plan : PlanKind) (runLength : Nat) (address : Addr) (segment : SegmentIndex)
      (first : FirstSlot) (fallback : Bool)
  | starved (segment : SegmentIndex) (address : Addr) (fill : FillState)
  | stopReached (segment : SegmentIndex) (address : Addr)
  | endOfList (segment : SegmentIndex) (address : Addr)
  | position (cause : PositionCause) (position : Position) (play : PlayState)
  | segmentGivenUp (segment : SegmentIndex) (firstMissing : Addr) (following : Option SegmentIndex)
  | resume (outcome : ResumeOutcome) (fingerprint : Fingerprint) (position : Option Position)
  | tray (line : TrayLine) (state : TrayState)
  | halted (position : Position) (plan : PlanKind)
  deriving DecidableEq, Repr

/-- One entry of the Report Queue (R190); the level is that of the report's kind (R193). -/
structure ReportEntry where
  report : Report
  overrun : Bool
  deriving DecidableEq, Repr

/-! ### The whole machine -/

/-- The state of the part, by block, and the commands that wait. -/
structure State where
  link : Link
  track : Tracker
  store : Store
  /-- the Fault List, in play order -/
  faults : List FaultEntry
  fill : Recovery
  timer : Timer
  out : Output
  gain : Gain
  tray : Tray
  table : Tables
  /-- the Report Queue, oldest first -/
  reports : List ReportEntry
  /-- the commands that wait, first in first out (log 1) -/
  pending : List Instr
  deriving DecidableEq, Repr

/-- The reasons a step may stop with a fault: none. The part has no condition that stops it; a second memory
check failure is the play state HALTED (R128). -/
inductive Fault where
  deriving DecidableEq, Repr

/-- The reasons a command may be refused a meaning. -/
inductive Refusal where
  /-- Raised by `exec` for a row without a meaning, by the row's mnemonic; safe. No row is left so. -/
  | notModelled (mnemonic : String)
  deriving DecidableEq, Repr

/-! ### Hard reset values -/

/-- A play list entry after a hard reset (R109). -/
def PlayEntry.reset : PlayEntry := ⟨0, 0, 0, false, false⟩

/-- A profile after a hard reset (R131). -/
def Profile.reset : Profile := ⟨2, .fade, 2, true, 64⟩

/-- The configuration record after a hard reset (R187). -/
def ConfigRecord.reset : ConfigRecord where
  depth := 2048
  highMargin := 16
  refill := 1024
  start := 50
  window := 64
  runIn := 8
  retryLimit := 4
  skipAhead := 25
  abandonLimit := 3
  attemptLimit := 1
  watchdogCode := 1
  settle := 100
  mask := 0
  positionMode := .segment
  sensitivity := .edge

/-- The machine right after a hard reset taken with the tray line high (log 8), nothing listed in the DRAM
(log 9) and no command waiting (R25, R43, R61, R92, R108, R130, R133, R161, R178, R187). -/
def State.reset : State where
  link := ⟨none, none, false, 0⟩
  track := ⟨0, 0, 0⟩
  store := ⟨[], 0, 2048, 2032, 1024, 50, none, []⟩
  faults := []
  fill := ⟨.stopped, 0, none, none, 0, 0, none⟩
  timer := ⟨0, 0, false, false, false, false⟩
  out := ⟨.idle, .none, 0, [], none, none, 0, false, 0, Pair.zero⟩
  gain := ⟨0, 0, 128, .currentProfile, 63, 63, Pair.zero⟩
  tray := ⟨.high, .closed, false, 0, none, [], none⟩
  table := ⟨Vector.replicate 64 PlayEntry.reset, Vector.replicate 4 Profile.reset, ConfigRecord.reset,
    none, false, false⟩
  reports := []
  pending := []

end Sys2Proof.Machine
end

