-- ==== Sys2Proof/Machine/Gain.lean ====
section
/-! DEFINITION. The arithmetic of gain and concealment (spec/07), on exact integers: lengths and steps of
fades, the level gain, the combined gain, the output sample, the ramp. -/

namespace Sys2Proof.Machine

/-- The fade length F in samples of a fade code: 64 × 2^code (R134). -/
def fadeLength (code : Nat) : Nat := 64 * 2 ^ code

/-- The step Δ of a fade of length F: 32,768 / F (R134). -/
def stepOfLength (len : Nat) : Nat := Config.unity / len

/-- The fade step of a profile (R134). -/
def Profile.fadeStep (p : Profile) : Nat := stepOfLength (fadeLength p.fadeCode)

/-- One move of the fade gain toward its target, stopping exactly there (R134, step 2). -/
def moveFade (g target step : Nat) : Nat :=
  if g < target then min (g + step) target
  else if target < g then max (g - step) target
  else g

/-- The mantissa table m of the level gain (R137). -/
def levelMantissa : Nat → Nat
  | 0 => 32768
  | 1 => 30048
  | 2 => 27554
  | 3 => 25268
  | 4 => 23170
  | 5 => 21247
  | 6 => 19484
  | _ => 17867

/-- The level gain Lg of an applied level code (R137). -/
def levelGain (code : Nat) : Nat :=
  if 63 ≤ code then 0 else levelMantissa (code % 8) / 2 ^ (code / 8)

/-- One step of the applied level code toward the requested one (R136). -/
def moveLevel (applied requested : Nat) : Nat :=
  if requested < applied then applied - 1
  else if applied < requested then applied + 1
  else applied

/-- The combined gain G = (g × Lg + 16,384) >> 15 (R138). -/
def combinedGain (g lg : Nat) : Nat := (g * lg + 16384) / 32768

/-- One output sample (s × G + 16,384) >> 15; the division floors, as the arithmetic shift does (R138). -/
def scaleSample (s : Int) (gain : Nat) : Int := (s * gain + 16384) / 32768

/-- The output pair of a pre-gain pair under a combined gain (R138). -/
def Pair.scale (p : Pair) (gain : Nat) : Pair :=
  ⟨BitVec.ofInt 16 (scaleSample p.left.toInt gain), BitVec.ofInt 16 (scaleSample p.right.toInt gain)⟩

/-- The distance q of the ramp's sample k from anchor a: |d| × k / (L + 1) to the nearest, halves away
from a (R143). -/
def rampDistance (d : Nat) (len k : Nat) : Nat := (2 * (d * k) + (len + 1)) / (2 * (len + 1))

/-- Sample k of a ramp of L samples from a to b (R143). -/
def rampSample (a b : Int) (len k : Nat) : Int :=
  if 0 ≤ b - a then a + rampDistance (b - a).natAbs len k else a - rampDistance (b - a).natAbs len k

/-- Pair k of a ramp of L samples (R143). -/
def Pair.ramp (a b : Pair) (len k : Nat) : Pair :=
  ⟨BitVec.ofInt 16 (rampSample a.left.toInt b.left.toInt len k),
   BitVec.ofInt 16 (rampSample a.right.toInt b.right.toInt len k)⟩

/-- The concealment fade length Fq of a FADE plan of L samples, absent when L is below 64 (R145). -/
def concealLength (len samples : Nat) : Option Nat :=
  if len ≤ samples then some len
  else [2048, 1024, 512, 256, 128, 64].find? (fun q => q ≤ samples)

/-- The cut fade length Fc, the smaller of F and 256 (R149). -/
def cutLength (code : Nat) : Nat := min (fadeLength code) 256

/-- The pairs of a payload: left then right sample, each low byte first (R3, R33). -/
def pairsOf : List Byte → List Pair
  | l0 :: l1 :: r0 :: r1 :: rest => ⟨sampleOf l0 l1, sampleOf r0 r1⟩ :: pairsOf rest
  | _ => []

end Sys2Proof.Machine
end

