-- ==== Sys2Proof/Machine/Ops.lean ====
section
/-! DEFINITION. The named operations the commands share: the DRAM payload areas, the ring of slots, the Fault
List, the Report Queue, the reverse transmitter's requests, the watchdog and the Gain Unit's requests. -/

namespace Sys2Proof.Machine

/-! ### DRAM payload areas (R3). The area of slot n begins at byte 1,920 × n (log 9). -/

/-- What a byte that is not listed reads as (log 9). -/
def Memory.unlisted : Byte := 0x00#8

/-- The byte at an address. -/
def Memory.read (d : List Host.Cell) (a : Nat) : Byte :=
  ((d.find? (fun c => c.1 == a)).map (fun c => c.2)).getD Memory.unlisted

/-- The cells that hold `bytes` from `base` on: none for a byte that reads as an unlisted one does. -/
def Memory.cells (base : Nat) : List Byte → List Host.Cell
  | [] => []
  | b :: bs => if b = Memory.unlisted then Memory.cells (base + 1) bs
      else (base, b) :: Memory.cells (base + 1) bs

/-- Bytes written from `base` on. -/
def Memory.write (d : List Host.Cell) (base : Nat) (bytes : List Byte) : List Host.Cell :=
  d.filter (fun c => c.1 < base) ++ Memory.cells base bytes
    ++ d.filter (fun c => base + bytes.length ≤ c.1)

/-- The canonical form: addresses strictly rising, all inside the device, none listed that reads 0. -/
abbrev Memory.wf (d : List Host.Cell) : Prop :=
  d.Pairwise (fun x y => x.1 < y.1) ∧ ∀ c ∈ d, c.1 < Config.dramBytes ∧ c.2 ≠ Memory.unlisted

/-- The `n` bytes from `a` on, read from cells none of which lies below `a`. -/
def Memory.bytesFrom : (a n : Nat) → List Host.Cell → List Byte
  | _, 0, _ => []
  | a, n + 1, [] => Memory.unlisted :: Memory.bytesFrom (a + 1) n []
  | a, n + 1, c :: cs =>
    if c.1 = a then c.2 :: Memory.bytesFrom (a + 1) n cs
    else Memory.unlisted :: Memory.bytesFrom (a + 1) n (c :: cs)

/-- Where the payload area of a physical slot begins (R3, log 9). -/
def areaBase (slot : Nat) : Nat := Config.areaBytes * slot

/-- The 1,920 bytes of a physical slot's area, in the order of the SECTOR payload (R3). -/
def Memory.readArea (d : List Host.Cell) (slot : Nat) : List Byte :=
  Memory.bytesFrom (areaBase slot) Config.areaBytes (d.filter (fun c => areaBase slot ≤ c.1))

/-- Bytes of the external device that changed by themselves; an address outside it names nothing (log 10). -/
def Memory.upset (d : List Host.Cell) (changes : List (Nat × Byte)) : List Host.Cell :=
  changes.foldl (fun d c => if c.1 < Config.dramBytes then Memory.write d c.1 [c.2] else d) d

/-! ### The Block Store's ring and address map (R4 to R14, R18) -/

/-- The occupancy C (R5). -/
def Store.count (st : Store) : Nat := st.slots.length

/-- The physical slot at a position (R5). -/
def Store.physical (st : Store) (i : Nat) : Nat := (st.head + i) % st.depth

/-- The position of a physical slot, its distance from the head (R5, R93). -/
def Store.distance (st : Store) (slot : Nat) : Nat := (slot + st.depth - st.head) % st.depth

/-- The address map: the position of the slot that holds an address, if one does (R7). -/
def Store.lookup (st : Store) (a : Addr) : Option Nat := st.slots.findIdx? (fun s => s.address == a)

/-- The held test (R7). -/
def Store.holds (st : Store) (a : Addr) : Bool := st.slots.any (fun s => s.address == a)

/-- The append test: not FULL and not HELD (R8). -/
def Store.takes (st : Store) (a : Addr) : Bool := st.count < st.depth && !st.holds a

/-- An append that is taken: the record at the tail, the payload in the slot's area, the check word over it
(R8, R22). -/
def Store.push (st : Store) (a : Addr) (seg : SegmentIndex) (q : Quality) (payload : List Byte) : Store :=
  { st with
    slots := st.slots ++ [⟨a, seg, q, false, some (crc16 payload), false⟩]
    dram := Memory.write st.dram (areaBase (st.physical st.count)) payload }

/-- The test of a placeholder run: K free slots, none of the K addresses held (R10). -/
def Store.admitsRun (st : Store) (first : Addr) (k : Nat) : Bool :=
  st.count + k ≤ st.depth && st.slots.all (fun s => !(first ≤ s.address && s.address < first + k))

/-- A placeholder run of K MISSING slots (R10). -/
def Store.pushRun (st : Store) (first : Addr) (k : Nat) (seg : SegmentIndex) : Store :=
  { st with
    slots := st.slots ++ (List.range k).map (fun i => ⟨first + i, seg, .missing, false, none, false⟩) }

/-- The cut mark of a give-up, on the tail if there is one (R11). -/
def Store.markTail (st : Store) : Store :=
  { st with slots := st.slots.modify (st.slots.length - 1) (fun s => { s with cutAfter := true }) }

/-- The ring after the head slot is freed (R12, step 3). -/
def Store.dropHead (st : Store) : Store :=
  { st with slots := st.slots.tail, head := (st.head + 1) % st.depth }

/-- The depth formed from a received value: down to a multiple of 256, within 256 to 2,048 (R4). -/
def formDepth (received : Nat) : Nat := max 256 (min 2048 (received / 256 * 256))

/-- The high-water mark formed for a depth (R18, step 1). -/
def formHighWater (depth margin : Nat) : Nat := depth - max 8 (min 255 margin)

/-- The refill level formed under a high-water mark (R18, step 2). -/
def formRefill (highWater received : Nat) : Nat :=
  let r := max 16 (min 1792 received)
  if highWater ≤ r then highWater - 8 else r

/-- The start threshold formed under a high-water mark (R18, step 3). -/
def formStart (highWater received : Nat) : Nat := min (max 8 (min 255 received)) highWater

/-- The depth and the marks in force formed from a received depth and the configuration record (R18, R19). -/
def Store.form (st : Store) (received : Nat) (c : ConfigRecord) : Store :=
  let d := formDepth received
  let high := formHighWater d c.highMargin
  { st with
    depth := d
    highWater := high
    refill := formRefill high c.refill
    start := formStart high c.start
    pendingDepth := none }

/-- The ring emptied, its head at physical slot 0 (R5), a pending depth applied and the marks formed (R16, R19). -/
def Store.flush (st : Store) (c : ConfigRecord) : Store :=
  { st with slots := [], head := 0 }.form (st.pendingDepth.getD c.depth) c

/-- The payload of the slot at a position, read and verified: its pairs, or `none` for a memory check
failure (R23). -/
def Store.readBlock (st : Store) (i : Nat) : Option (List Pair) :=
  match st.slots[i]? with
  | none => none
  | some slot =>
    let bytes := Memory.readArea st.dram (st.physical i)
    if some (crc16 bytes) = slot.check then some (pairsOf bytes) else none

/-- A block read for output has a payload the decoder passed (R2). -/
def Quality.readable : Quality → Bool
  | .clean | .repaired => true
  | .damaged | .missing => false

/-! ### The Report Queue (R190, R191, R193) -/

/-- The level of a report (R193). -/
def Report.level : Report → Nat
  | .result .. | .status .. | .tableReply .. => 6
  | .frameCheck .. | .lateAnswer .. => 1
  | .skipDetected .. | .repaired .. => 3
  | .concealed .. => 4
  | .starved .. | .stopReached .. | .endOfList .. | .segmentGivenUp .. | .resume .. => 5
  | .position .. => 2
  | .tray .. | .halted .. => 7

/-- A TRAY report. -/
def Report.isTray : Report → Bool
  | .tray .. => true
  | _ => false

/-- The queue with the OVERRUN mark of its newest entry set (R191). -/
def markNewest (q : List ReportEntry) : List ReportEntry :=
  q.modify (q.length - 1) (fun e => { e with overrun := true })

/-- The queue without its newest entry below level 7 (R191). -/
def dropNewestBelow7 (q : List ReportEntry) : List ReportEntry :=
  (q.reverse.eraseP (fun e => e.report.level < 7)).reverse

/-- A report that passed the mask placed in the queue: a TRAY entry that waits is updated in place, a queue
with room takes the report at its end, a full queue decides by level (R190, R191). -/
def placeReport (q : List ReportEntry) (r : Report) : List ReportEntry :=
  if r.isTray && q.any (fun e => e.report.isTray) then
    q.map (fun e => if e.report.isTray then { e with report := r } else e)
  else if q.length < Config.reportCapacity then q ++ [⟨r, false⟩]
  else if r.level < 7 then markNewest q
  else dropNewestBelow7 q ++ [⟨r, true⟩]

/-- A report created: discarded at or below the mask level unless it is of level 7, else placed (R190). -/
def State.post (s : State) (r : Report) : State :=
  if r.level ≤ s.table.config.mask ∧ r.level ≠ 7 then s
  else { s with reports := placeReport s.reports r }

/-- The RESULT report of a control frame (R179). -/
def State.answer (s : State) (source : FrameSource) (code : Byte) (outcome : ResultCode)
    (present : Bool := false) : State :=
  s.post (.result source code outcome present)

/-! ### Profiles (R114, R131) -/

/-- The play list entry of a segment. -/
def Tables.entry (t : Tables) (seg : SegmentIndex) : PlayEntry := t.playList[seg]

/-- The profile the play list entry of a segment names (R131). -/
def Tables.profileOf (t : Tables) (seg : SegmentIndex) : Profile := t.profiles[(t.entry seg).profile]

/-- The current profile: that of the cursor segment, and profile 0 while that is none (R114). -/
def State.currentProfile (s : State) : Profile :=
  match s.out.cursorSegment with
  | some seg => s.table.profileOf seg
  | none => s.table.profiles[(0 : Fin 4)]

/-! ### Requests to the Gain Unit (R114, R135) -/

/-- The play states in which a raise of the target above 0 is not taken (R114). -/
def PlayState.keepsTargetLow : PlayState → Bool
  | .pausing | .stopping | .starved | .trayHold => true
  | _ => false

/-- The fade target of a play state (R111). -/
def PlayState.fadeTarget : PlayState → Nat
  | .playing => Config.unity
  | _ => 0

/-- The target asked to be unity, where the play state takes that (R114). -/
def State.raisedTarget (s : State) : Nat :=
  if s.out.play.keepsTargetLow then s.gain.target else Config.unity

/-- A play state entered with its state fade (R111, R135). -/
def State.enter (s : State) (p : PlayState) : State :=
  { s with
    out := { s.out with play := p }
    gain := { s.gain with target := p.fadeTarget, step := s.currentProfile.fadeStep, source := .currentProfile } }

/-- Cut off, and mute: the gain and its target go to 0 at once (R135). -/
def State.cutOff (s : State) : State :=
  { s with gain := { s.gain with fade := 0, target := 0 } }

/-- A fade-out with a step of its own: a concealment fade-out or a cut fade (R135). -/
def State.fixedFade (s : State) (step : Nat) : State :=
  { s with gain := { s.gain with target := 0, step := step, source := .fixed } }

/-- The follower fade-in: from 0 with the step of the follower's profile (R135, R148). -/
def State.followerFadeIn (s : State) (p : Profile) : State :=
  { s with gain := { s.gain with fade := 0, target := s.raisedTarget, step := p.fadeStep, source := .currentProfile } }

/-- The after-cut fade-in: from the gain it finds, with the step of the current profile (R135, R149). -/
def State.afterCutFadeIn (s : State) : State :=
  { s with gain := { s.gain with
      target := s.raisedTarget, step := s.currentProfile.fadeStep, source := .currentProfile } }

/-- The step taken again from the current profile, while it follows it (R114, R132). -/
def State.refreshStep (s : State) : State :=
  if s.gain.source = .currentProfile then
    { s with gain := { s.gain with step := s.currentProfile.fadeStep } }
  else s

/-! ### Requests to the reverse transmitter (R40, R41) -/

/-- A SEEK request: it takes the slot and withdraws a pending READ_PAUSE (R40). -/
def State.requestSeek (s : State) (r : SeekRequest) : State :=
  { s with link := { s.link with seek := some r, pause := false } }

/-- A READ_PAUSE request: it sets the flag and withdraws a pending SEEK (R41). -/
def State.requestPause (s : State) : State :=
  { s with link := { s.link with seek := none, pause := true } }

/-! ### The watchdog and the timebase (R154, R155) -/

/-- The watchdog cleared and armed, as at a seek issue (R155). -/
def Timer.arm (t : Timer) : Timer := { t with watchdog := 0, armed := true }

/-- The watchdog cleared and disarmed (R155). -/
def Timer.disarm (t : Timer) : Timer := { t with watchdog := 0, armed := false }

/-- A clearing of the timebase: the count and the watchdog counter go to 0, and an expiry or a settle end
that was still to come is overtaken (R154, R158, R159, log 4, 5). -/
def Timer.clear (t : Timer) : Timer :=
  { t with count := 0, watchdog := 0, expiryDue := false, settleDue := false }

/-! ### Consume and flush (R12, R16) -/

/-- The Fault List without the entry that names a slot (R102, R105). -/
def removeFault (l : List FaultEntry) (slot : Nat) : List FaultEntry :=
  l.filter (fun e => e.slot != slot)

/-- A consume of the head slot: its Fault List entry goes with it, the ring moves on, and the sequencer's
block is over (R12, R112). A store without slots is not asked for a consume (R12). -/
def State.consume (s : State) : State :=
  match s.store.slots with
  | [] => s
  | slot :: _ =>
    { s with
      faults := if slot.listed then removeFault s.faults s.store.head else s.faults
      store := s.store.dropHead
      out := { s.out with
        startOffset := 0, buffer := [], afterCut := slot.cutAfter, lastPlayed := slot.address } }

/-- A flush (R16): the store and the Fault List emptied, the marks formed, the watchdog disarmed, the
consecutive-append count at 0 (R57), the plan and the block buffer gone (R112, R141). -/
def State.flush (s : State) : State :=
  { s with
    store := s.store.flush s.table.config
    faults := []
    timer := s.timer.disarm
    track := { s.track with run := 0 }
    out := { s.out with buffer := [], plan := none, afterCut := false } }

/-! ### Positions (R24, R112, R169) -/

/-- The waiting position: the head slot while slots are held, the fill segment and E otherwise, at the start
offset (R112). -/
def State.waitingPosition (s : State) : Position :=
  match s.store.slots with
  | slot :: _ => ⟨slot.segment, slot.address, s.out.startOffset⟩
  | [] => ⟨s.track.segment, s.track.expected, s.out.startOffset⟩

/-- The cursor's position: the head slot at the current offset while it has a head, else the waiting position
(R112). A finished block still stands at its last offset (log 12). -/
def State.cursorPosition (s : State) : Position :=
  match s.out.cursor with
  | .head off => { s.waitingPosition with offset := off }
  | .finished => { s.waitingPosition with offset := Config.pairsPerBlock - 1 }
  | .none | .waiting | .next => s.waitingPosition

/-- The pair that would be handed on next: after offset 479 it is the first of the following slot, or of the
block the fill brings (R169). -/
def State.savePosition (s : State) : Position :=
  match s.out.cursor with
  | .finished =>
    match s.store.slots[1]? with
    | some slot => ⟨slot.segment, slot.address, 0⟩
    | none => ⟨s.track.segment, s.track.expected, 0⟩
  | .head _ | .none | .waiting | .next => s.cursorPosition

/-- The slots held for output: the head the cursor has, the run of a plan in force, the follower of a RAMP
(R13). -/
def State.heldForOutput (s : State) (i : Nat) : Bool :=
  (match s.out.cursor with
    | .head _ | .finished => i == 0
    | .none | .waiting | .next => false)
  || (match s.out.plan with
    | some p => decide (i < p.left) || (p.kind == .ramp && i == p.left)
    | none => false)

end Sys2Proof.Machine
end

