-- ==== Sys2Proof/Machine/Fill.lean ====
section
/-! DEFINITION. The fill: the Position Tracker (spec/03), the Recovery Controller (spec/04) and the Fault List's
part in both (spec/05). -/

namespace Sys2Proof.Machine

/-! ### Issuing a seek (R64 to R70) -/

/-- A recovery is in progress while the fill is SEEKING or RELOCKING (R62). -/
def FillState.recovering : FillState → Bool
  | .seeking | .relocking => true
  | _ => false

/-- The priority of the cause a reason belongs to: PROGRAM 1, SKIP 2, REFILL 3, REPAIR 4 (R65). -/
def Reason.priority : Reason → Nat
  | .start | .segment | .resume => 1
  | .skip => 2
  | .refill => 3
  | .repair => 4

/-- The run-in in force: the configured one, at most W (R70, step 1). -/
def ConfigRecord.runInForce (c : ConfigRecord) : Nat := min c.runIn c.window

/-- The cause address of the recovery in progress: the fault address of a REPAIR, E otherwise (R63). -/
def State.causeAddress (s : State) : Addr :=
  match s.fill.active with
  | some ⟨.repair, some f, _⟩ => f.address
  | _ => s.track.expected

/-- The target of a seek: the cause address less the run-in, for a REPAIR not below the start of the fault's
segment (R70, step 2). -/
def State.seekTarget (s : State) (fault : Option FaultRef) : Addr :=
  match fault with
  | some f => max (f.address - s.table.config.runInForce) (s.table.entry f.segment).first
  | none => s.track.expected - s.table.config.runInForce

/-- A seek issued with a given retry count (R70, steps 2 to 4 and 6 to 8). -/
def State.issue (s : State) (reason : Reason) (fault : Option FaultRef) (retry : Nat) : State :=
  let target := s.seekTarget fault
  let tag := s.fill.tag + 1
  { s with
    fill := { s.fill with
      state := .seeking, tag := tag, outstanding := some tag,
      active := some ⟨reason, fault, target⟩, retry := retry, owed := none }
    timer := s.timer.arm }.requestSeek ⟨tag, target, reason⟩

/-- One attempt counted on the entry of a fault (R100). -/
def countAttempt (l : List FaultEntry) (f : FaultRef) : List FaultEntry :=
  l.map (fun e => if e.address = f.address ∧ e.segment = f.segment then { e with attempts := e.attempts + 1 } else e)

/-- A seek issued for a new cause: retry count 0, and for a REPAIR one attempt on its entry (R70, step 5). -/
def State.issueNew (s : State) (reason : Reason) (fault : Option FaultRef) : State :=
  { s with faults := match fault with
      | some f => countAttempt s.faults f
      | none => s.faults }.issue reason fault 0

/-- A cause that arises, decided by the arbiter: issued with no recovery in progress, superseding one of
strictly lower priority, discarded otherwise (R66, R67). -/
def State.raiseCause (s : State) (reason : Reason) (fault : Option FaultRef) : State :=
  if s.fill.state.recovering then
    match s.fill.active with
    | some a => if reason.priority < a.reason.priority then s.issueNew reason fault else s
    | none => s.issueNew reason fault
  else s.issueNew reason fault

/-! ### Leaving a recovery (R76, R77, R85 to R88) -/

/-- The fill in a state outside a recovery: watchdog disarmed, retry count 0, cause fields cleared, no seek
outstanding, no run owed (R62, R63). -/
def State.leaveRecovery (s : State) (f : FillState) : State :=
  { s with
    fill := { s.fill with state := f, outstanding := none, active := none, retry := 0, owed := none }
    timer := s.timer.disarm }

/-- The REFILL test (R86): in PAUSED_FULL with C at or below the refill level and E not held. -/
def State.refillTest (s : State) : Bool :=
  s.fill.state == .pausedFull && decide (s.store.count ≤ s.store.refill) && !s.store.holds s.track.expected

/-- The REFILL cause issued where its test passes (R86). -/
def State.refillIfDue (s : State) : State :=
  if s.refillTest then s.issueNew .refill none else s

/-- PAUSED_FULL entered at high-water or by a blocked front: READ_PAUSE requested, the REFILL test made
(R77, R85, R86). -/
def State.enterPausedFull (s : State) : State :=
  (s.leaveRecovery .pausedFull).requestPause.refillIfDue

/-- END entered: the recovery ends, and READ_PAUSE is requested unless the fill was PAUSED_FULL (R87). -/
def State.enterEnd (s : State) : State :=
  let t := s.leaveRecovery .ended
  if s.fill.state = .pausedFull then t else t.requestPause

/-- The fill stopped by a STOP completion or the save step (R88). -/
def State.fillStop (s : State) : State :=
  { (s.leaveRecovery .stopped).requestPause with
    fill := { (s.leaveRecovery .stopped).requestPause.fill with abandon := 0 } }

/-- The recovery ended by the flush of PLAY or a resume (R68). -/
def State.dropRecovery (s : State) : State :=
  let t := s.leaveRecovery .stopped
  { t with fill := { t.fill with abandon := 0 } }

/-! ### Crossing a segment end (R53 to R55) -/

/-- What a crossing chooses: the end of the fill, or a next segment and whether the cue flag is used up. -/
inductive Crossing where
  | ends
  | goes (following : SegmentIndex) (usesCue : Bool)
  deriving DecidableEq, Repr

/-- The candidate of a crossing from segment `s`, if it is VALID (R53, steps 1 to 3). -/
def Tables.candidate (t : Tables) (s : SegmentIndex) : Option SegmentIndex :=
  if h : s.val + 1 < 64 then
    if (t.entry s).eol = false ∧ (t.entry ⟨s.val + 1, h⟩).valid = true then some ⟨s.val + 1, h⟩ else none
  else none

/-- The choice of a crossing from segment `s` (R53). -/
def Tables.crossing (t : Tables) (s : SegmentIndex) : Crossing :=
  if t.stopIndex = some s then .ends
  else match t.candidate s with
    | some n => .goes n false
    | none =>
      if (t.repeatFlag || t.cueFlag) && (t.entry 0).valid then .goes 0 (!t.repeatFlag) else .ends

/-- The fill moved to a chosen segment: E at its start, the abandon count at 0, the cue flag cleared if it was
used (R53, R54). -/
def State.moveTo (s : State) (n : SegmentIndex) (usesCue : Bool) : State :=
  { s with
    track := { s.track with segment := n, expected := (s.table.entry n).first }
    fill := { s.fill with abandon := 0 }
    table := { s.table with cueFlag := if usesCue then false else s.table.cueFlag } }

/-- A crossing made by an append: a next segment that does not follow on raises its SEGMENT cause, but in
PAUSED_FULL (R54, R55). -/
def State.crossByAppend (s : State) : State :=
  match s.table.crossing s.track.segment with
  | .ends => s.enterEnd
  | .goes n usesCue =>
    let t := s.moveTo n usesCue
    if (s.table.entry n).first = (s.table.entry s.track.segment).last + 1 ∨ s.fill.state = .pausedFull then t
    else t.raiseCause .segment none

/-! ### Abandon and give-up (R80 to R84) -/

/-- A give-up of the fill segment (R84). -/
def State.giveUp (s : State) : State :=
  let seg := s.track.segment
  let firstMissing := s.track.expected
  let marked := { s with store := s.store.markTail }
  match s.table.crossing seg with
  | .ends => marked.enterEnd.post (.segmentGivenUp seg firstMissing none)
  | .goes n usesCue =>
    ((marked.moveTo n usesCue).post (.segmentGivenUp seg firstMissing (some n))).issueNew .segment none

/-- The abandon goes on after its placeholder run has been appended up to `last` (R56, R83). Where the run ended
the fill, E is the end address of the segment (R53, log 29). -/
def State.continueAbandon (s : State) (last : Addr) : State :=
  let s := { s with track := { s.track with run := 0 } }
  if last = (s.table.entry s.track.segment).last then
    match s.table.crossing s.track.segment with
    | .ends => { s with track := { s.track with expected := last } }.enterEnd
    | .goes n usesCue =>
      let follows := (s.table.entry n).first = last + 1
      (s.moveTo n usesCue).issueNew (if follows then .skip else .segment) none
  else
    let t := { s with
      track := { s.track with expected := last + 1 }
      fill := { s.fill with abandon := s.fill.abandon + 1 } }
    if t.table.config.abandonLimit < t.fill.abandon then t.giveUp else t.issueNew .skip none

/-- The placeholder run of K slots from `first`, appended (R10). -/
def State.appendRun (s : State) (first : Addr) (k : Nat) : State :=
  { s with store := s.store.pushRun first k s.track.segment }

/-- The length of an abandon's run: the skip-ahead, cut at the segment end (R81, step 3). -/
def State.runLength (s : State) : Nat :=
  min s.table.config.skipAhead ((s.table.entry s.track.segment).last + 1 - s.track.expected)

/-- An abandon of a cause other than REPAIR: the run is appended at once, or owed in ABANDON_WAIT (R81). -/
def State.abandonAhead (s : State) : State :=
  let k := s.runLength
  let e := s.track.expected
  if s.store.admitsRun e k then
    ((s.leaveRecovery s.fill.state).appendRun e k).continueAbandon (e + k - 1)
  else
    let t := s.leaveRecovery .abandonWait
    { t with
      track := { t.track with run := 0 }
      fill := { t.fill with owed := some ⟨e, k⟩ } }

/-- An abandon (R80, R81). -/
def State.abandonRecovery (s : State) : State :=
  match s.fill.active with
  | some ⟨.repair, _, _⟩ => s.issueNew .refill none
  | _ => s.abandonAhead

/-- A retry: the seek issued again with a new tag, or an abandon at the retry limit (R79). -/
def State.retryRecovery (s : State) : State :=
  let t := { s with track := { s.track with run := 0 } }
  match t.fill.active with
  | some a =>
    if t.fill.retry < t.table.config.retryLimit then t.issue a.reason a.fault (t.fill.retry + 1)
    else t.abandonRecovery
  | none => t

/-! ### The REPAIR evaluation (R69, R97, R98) -/

/-- The eligibility tests of an entry (R98). -/
def State.eligible (s : State) (e : FaultEntry) : Bool :=
  e.segment == s.track.segment && decide (e.address < s.track.expected)
  && decide (e.attempts < s.table.config.attemptLimit)
  && decide ((s.table.profileOf e.segment).repairLead ≤ s.store.distance e.slot)

/-- A REPAIR evaluation: in TRACKING or PAUSED_FULL the oldest eligible entry is issued (R69, R97). -/
def State.evaluateRepair (s : State) : State :=
  if s.fill.state = .tracking ∨ s.fill.state = .pausedFull then
    match s.faults.find? s.eligible with
    | some e => s.raiseCause .repair (some ⟨e.address, e.segment⟩)
    | none => s
  else s

/-! ### Arrivals (R34 to R38, R45 to R52, R74 to R77) -/

/-- An arrival as the Link Interface hands it on (R37). -/
structure Arrival where
  /-- absent when the vote is unresolved -/
  address : Option (Addr × Vote)
  quality : Quality
  payload : List Byte
  deriving DecidableEq, Repr

/-- The vote over the three address copies (R36). -/
def voteAddress (a b c : BitVec 24) : Option (Addr × Vote) :=
  if a = b ∧ b = c then some (a.toNat, .clean)
  else if a = b ∨ a = c then some (a.toNat, .noisy)
  else if b = c then some (b.toNat, .noisy)
  else none

/-- The quality decoded from byte 4 and the payload check (R34). -/
def decodeQuality (code : Byte) (passed : Bool) : Quality :=
  if passed && code == 0x00#8 then .clean
  else if passed && code == 0x01#8 then .repaired
  else .damaged

/-- The arrival a SECTOR frame becomes (R35 to R37). -/
def arrivalOf (f : SectorFrame) : Arrival where
  address := voteAddress f.copyA f.copyB f.copyC
  quality := decodeQuality f.quality (crc16 f.payload == f.check)
  payload := f.payload

/-- The noisy-vote count after a vote (R38). -/
def Link.countVote (l : Link) (v : Option (Addr × Vote)) : Link :=
  match v with
  | some (_, .noisy) => { l with noisy := min (l.noisy + 1) 65535 }
  | _ => l

/-- The Fault List admission of the DAMAGED block just appended at position `p` (R95). -/
def State.admitFault (s : State) (p : Nat) : State :=
  match s.store.slots[p]? with
  | none => s
  | some slot =>
    let profile := s.table.profileOf slot.segment
    if s.faults.length < Config.faultCapacity ∧ profile.repairEnable = true ∧ profile.repairLead ≤ p then
      { s with
        faults := s.faults ++ [⟨s.store.physical p, slot.address, slot.segment, 0⟩]
        store := { s.store with slots := s.store.slots.modify p (fun x => { x with listed := true }) } }
    else s

/-- The consecutive-append count advanced; the 256th append clears the abandon count (R57). -/
def State.countAppend (s : State) : State :=
  if s.track.run < 255 then { s with track := { s.track with run := s.track.run + 1 } }
  else { s with
    track := { s.track with run := 0 }
    fill := { s.fill with abandon := 0 } }

/-- A crossing when the block at E ended the fill segment, else E moved on (R47, step 3). -/
def State.moveOn (s : State) : State :=
  if s.track.expected = (s.table.entry s.track.segment).last then s.crossByAppend
  else { s with track := { s.track with expected := s.track.expected + 1 } }

/-- The steps that follow an append the store took at position `p` (R47). -/
def State.appendSteps (s : State) (p : Nat) (q : Quality) : State :=
  (if q = .damaged then s.admitFault p else s).countAppend.moveOn

/-- The high-water test, made in TRACKING and nowhere else (R85). -/
def State.highWaterTest (s : State) : State :=
  if s.fill.state = .tracking ∧ s.store.highWater ≤ s.store.count then s.enterPausedFull else s

/-- The block at E put into the store (R8). -/
def State.pushBlock (s : State) (a : Arrival) : State :=
  { s with store := s.store.push s.track.expected s.track.segment a.quality a.payload }

/-- The step of an arrival at E in TRACKING and PAUSED_FULL: an append, whose new C meets the high-water test
at once (R20, R47, log 11), or a blocked front (R48, R51). -/
def State.appendAtE (s : State) (a : Arrival) : State :=
  if s.store.takes s.track.expected then
    ((s.pushBlock a).highWaterTest).appendSteps s.store.count a.quality
  else if s.fill.state = .tracking then s.enterPausedFull
  else s

/-- The step of an arrival at E in RELOCKING (R75 to R78). -/
def State.relockAtE (s : State) (a : Arrival) (v : Vote) : State :=
  if s.store.takes s.track.expected then
    match v with
    | .clean =>
      (((s.pushBlock a).leaveRecovery .tracking).appendSteps s.store.count a.quality).highWaterTest
    | .noisy => (s.pushBlock a).appendSteps s.store.count a.quality
  else s.enterPausedFull

/-- The fault entry of a physical slot, if the list holds one. -/
def faultOf (l : List FaultEntry) (slot : Nat) : Option FaultEntry := l.find? (fun e => e.slot == slot)

/-- A repair-replace of the slot at position `i` (R14, R102, R103). -/
def State.replaceAt (s : State) (i : Nat) (slot : Slot) (a : Arrival) : State :=
  let phys := s.store.physical i
  let entry := if slot.listed then faultOf s.faults phys else none
  { s with
    store := { s.store with
      slots := s.store.slots.set i
        { slot with quality := a.quality, check := some (crc16 a.payload), listed := false }
      dram := Memory.write s.store.dram (areaBase phys) a.payload }
    faults := if slot.listed then removeFault s.faults phys else s.faults }.post
    (.repaired slot.address slot.segment a.quality (entry.map FaultEntry.attempts) i)

/-- The step of an overlap arrival (R14, R49). -/
def State.overlap (s : State) (addr : Addr) (a : Arrival) : State :=
  match s.store.lookup addr with
  | none => s
  | some i =>
    match s.store.slots[i]? with
    | none => s
    | some slot =>
      if slot.quality = .damaged ∧ a.quality.readable = true ∧ s.heldForOutput i = false then s.replaceAt i slot a
      else s

/-- A discontinuity in TRACKING (R50, R58). -/
def State.discontinuity (s : State) (addr : Addr) (v : Vote) : State :=
  let t := s.post (.skipDetected addr s.track.expected s.track.segment v)
  { t with track := { t.track with run := 0 } }.raiseCause .skip none

/-- The lowest address of the overlap range in RELOCKING: the target of a REPAIR, E − W otherwise (R74). -/
def State.relockLow (s : State) : Addr :=
  match s.fill.active with
  | some ⟨.repair, _, target⟩ => target
  | _ => s.track.expected - s.table.config.window

/-- An arrival in RELOCKING (R75). -/
def State.relockArrival (s : State) (a : Arrival) : State :=
  match a.address with
  | none => s.retryRecovery
  | some (addr, v) =>
    if addr = s.track.expected then s.relockAtE a v
    else if s.relockLow ≤ addr ∧ addr < s.track.expected then s.overlap addr a
    else s.retryRecovery

/-- An arrival in TRACKING (R46) and in PAUSED_FULL, where a discontinuity is only discarded (R51). -/
def State.trackArrival (s : State) (a : Arrival) : State :=
  match a.address with
  | none => s
  | some (addr, v) =>
    if addr = s.track.expected then s.appendAtE a
    else if s.track.expected - s.table.config.window ≤ addr ∧ addr < s.track.expected then s.overlap addr a
    else if s.fill.state = .tracking then s.discontinuity addr v
    else s

/-- An arrival in ABANDON_WAIT and END: overlaps only, in END up to E itself (R52). -/
def State.restArrival (s : State) (a : Arrival) : State :=
  match a.address with
  | none => s
  | some (addr, _) =>
    if s.track.expected - s.table.config.window ≤ addr
        ∧ (addr < s.track.expected ∨ (addr = s.track.expected ∧ s.fill.state = .ended)) then s.overlap addr a
    else s

/-- An arrival handled by fill state (R45), then the REPAIR evaluation (R69). -/
def State.arrive (s : State) (a : Arrival) : State :=
  (match s.fill.state with
    | .stopped | .seeking | .halted => s
    | .relocking => s.relockArrival a
    | .tracking | .pausedFull => s.trackArrival a
    | .abandonWait | .ended => s.restArrival a).evaluateRepair

/-! ### Answers (R39, R71, R72) -/

/-- A SEEK_DONE that matches the outstanding seek (R71). -/
def State.answerMatched (s : State) (status : SeekStatus) : State :=
  match status with
  | .locked =>
    { s with
      fill := { s.fill with state := .relocking, outstanding := none }
      timer := { s.timer with watchdog := 0 } }
  | .failed => s.retryRecovery

/-- A SEEK_DONE taken: stale while a SEEK waits unsent (R39) or when it does not match (R72). -/
def State.seekAnswer (s : State) (tag : Tag) (status : SeekStatus) : State :=
  if s.link.seek = none ∧ s.fill.state = .seeking ∧ s.fill.outstanding = some tag then s.answerMatched status
  else s.post (.lateAnswer tag status)

end Sys2Proof.Machine
end

