-- ==== Sys2Proof/Machine/Output.lean ====
section
/-! DEFINITION. The Output Sequencer and concealment (spec/06, spec/07): the head of each block, run planning,
block boundaries, plan ends, starvation, the end of the program, halting, and the sample period. -/

namespace Sys2Proof.Machine

/-! ### Conditions -/

/-- In TRAY_HOLD the save step is still to come while the tray state is FADING (R125, R168). -/
def State.beforeSave (s : State) : Bool := s.out.play == .trayHold && s.tray.state == .fading

/-- The play states in which the cursor hands on pairs (R111, R113). -/
def State.moving (s : State) : Bool :=
  s.out.play == .playing || s.out.play == .pausing || s.out.play == .stopping || s.beforeSave

/-- The fading states whose completion is due: g stands at 0 in PAUSING, STOPPING or TRAY_HOLD before the save
step (R122, R124, R168). -/
def State.completionDue (s : State) : Bool :=
  s.gain.fade == 0 && (s.out.play == .pausing || s.out.play == .stopping || s.beforeSave)

/-- The tray state in which FADING is left, by the level of the line (R168, R170). -/
def trayAfterFade : TrayLine → TrayState
  | .low => .opened
  | .high => .settling

/-- FADING left without a save step: the tray state by the line, the fingerprint none (R170). -/
def Tray.leaveFading (tr : Tray) : Tray :=
  if tr.state = .fading then { tr with state := trayAfterFade tr.line, fingerprint := none } else tr

/-! ### Halting (R128, R151, R170) -/

/-- HALTED entered by a second failure found at a position under a kind of plan (R89, R128, R151, R170). -/
def State.halt (s : State) (pos : Position) (kind : PlanKind) : State :=
  let t := s.cutOff.requestPause
  { t with
    out := { t.out with play := .halted }
    fill := { t.fill with state := .halted, outstanding := none, owed := none }
    timer := t.timer.disarm
    tray := { t.tray.leaveFading with saved := none } }.post (.halted pos kind)

/-! ### Becoming the head (R117, R126) -/

/-- The cursor segment set for a slot that becomes the head; a change takes the step again and creates a
POSITION report unless the mode is OFF (R114, R126). -/
def State.enterSegment (s : State) (slot : Slot) (offset : Nat) : State :=
  if s.out.cursorSegment = some slot.segment then s
  else
    let t := { s with out := { s.out with cursorSegment := some slot.segment } }.refreshStep
    if t.table.config.positionMode = .off then t
    else t.post (.position .segment ⟨slot.segment, slot.address, offset⟩ t.out.play)

/-- The run that begins at the head: the head and each DAMAGED or MISSING slot after it (R139). -/
def Store.run (st : Store) : List Slot :=
  st.slots.take 1 ++ st.slots.tail.takeWhile (fun s => !s.quality.readable)

/-- A plan as it comes into force at the head (R141). The anchor a is the recorded pair, whatever plan ended there
(R133, R139; log 31 where R148 calls it zero). -/
def State.newPlan (s : State) (kind : PlanKind) (offset : Nat) (profile : ProfileIndex) (b : Pair)
    (fadeStep : Option Nat) : Plan where
  kind := kind
  firstSlot := s.store.head
  firstOffset := offset
  runLength := s.store.run.length
  samples := s.store.run.length * Config.pairsPerBlock - offset
  profile := profile
  anchorA := s.gain.lastPair
  anchorB := b
  fadeStep := fadeStep
  progress := 0
  fadedOut := false
  phase := .fading
  left := s.store.run.length
  lateCut := false

/-- A plan put into force, the cursor at the run's first slot, with its CONCEALED report (R141, R142). -/
def State.adopt (s : State) (plan : Plan) (slot : Slot) (first : FirstSlot) (fallback : Bool) : State :=
  { s with out := { s.out with plan := some plan, cursor := .head plan.firstOffset } }.post
    (.concealed plan.kind plan.runLength slot.address slot.segment first fallback)

/-- The gain requests with which a long plan starts: a concealment fade-out at the plan's step, else a mute
(R145 to R147). -/
def State.beginPlan (s : State) (fadeStep : Option Nat) : State :=
  match fadeStep with
  | some step => s.fixedFade step
  | none => s.cutOff

/-- The kind of a long plan, and whether FADE stands in for a DROP that has no follower (R140, step 3). -/
def longKind (action : LongAction) (follower : Bool) : PlanKind × Bool :=
  match action with
  | .fade => (.fade, false)
  | .mute => (.mute, false)
  | .drop => if follower then (.drop, false) else (.fade, true)

/-- The fade step of a long plan over L samples under a profile (R141, R145, R147). -/
def longStep (kind : PlanKind) (p : Profile) (samples : Nat) : Option Nat :=
  match kind with
  | .fade => (concealLength (fadeLength p.fadeCode) samples).map stepOfLength
  | .drop => some p.fadeStep
  | .ramp | .mute => none

/-- Run planning at the head `slot` with start offset `offset` (R139, R140): RAMP where the run qualifies and
its follower reads well, a halt where that read fails, the long action otherwise. The halt leaves no plan in force,
since none was chosen (log 32). -/
def State.planRun (s : State) (slot : Slot) (offset : Nat) (first : FirstSlot) : State :=
  let run := s.store.run
  let r := run.length
  let index := (s.table.entry slot.segment).profile
  let profile := s.table.profiles[index]
  let follower := decide (r < s.store.count)
  if r ≤ profile.rampLimit ∧ follower = true ∧ run.all (fun x => !x.cutAfter) = true then
    match s.store.readBlock r with
    | some pairs =>
      s.adopt (s.newPlan .ramp offset index (pairs.headD Pair.zero) none) slot first false
    | none =>
      { s with out := { s.out with cursor := .head offset } }.halt ⟨slot.segment, slot.address, offset⟩ .ramp
  else
    let (kind, fallback) := longKind profile.longAction follower
    let step := longStep kind profile (r * Config.pairsPerBlock - offset)
    (s.adopt (s.newPlan kind offset index Pair.zero step) slot first fallback).beginPlan step

/-- The after-cut fade-in, where the slot that becomes the head follows a cut slot (R149, log 14). -/
def State.takeAfterCut (s : State) : State :=
  if s.out.afterCut then
    let t := s.afterCutFadeIn
    { t with out := { t.out with afterCut := false } }
  else s

/-- The slot at the head becomes the head for output (R117): under a plan it is a run slot and is not read; else
a good block is read and a bad one, or one whose read fails, begins a run. -/
def State.becomeHead (s : State) : State :=
  match s.store.slots with
  | [] => s
  | slot :: _ =>
    let offset := s.out.startOffset
    let t := s.enterSegment slot offset
    match t.out.plan with
    | some _ => { t with out := { t.out with cursor := .head offset } }
    | none =>
      let u := t.takeAfterCut
      match slot.quality with
      | .clean | .repaired =>
        match u.store.readBlock 0 with
        | some pairs => { u with out := { u.out with buffer := pairs, cursor := .head offset } }
        | none => u.planRun slot offset .check
      | .damaged => u.planRun slot offset .damaged
      | .missing => u.planRun slot offset .missing

/-! ### Block boundaries (R118 to R121, R148) -/

/-- Starvation (R119). -/
def State.starve (s : State) : State :=
  let t := { s with out := { s.out with cursor := .waiting, plan := none } }.enter .starved
  t.post (.starved t.waitingPosition.segment t.waitingPosition.address t.fill.state)

/-- The end of the program (R121): silence at once, the fill from END to STOPPED, one report for the block
consumed last. -/
def State.endProgram (s : State) : State :=
  let t := s.cutOff
  let seg := s.out.cursorSegment.getD 0
  { t with
    out := { t.out with play := .idle, cursor := .none, buffer := [], plan := none }
    fill := { t.fill with state := .stopped } }.post
    (if s.table.stopIndex = some seg then .stopReached seg s.out.lastPlayed else .endOfList seg s.out.lastPlayed)

/-- The block boundary test with no plan in force (R118): the next slot, or by the play state starvation, the
end of the program or a waiting cursor. -/
def State.boundaryTest (s : State) : State :=
  if s.store.slots ≠ [] then { s with out := { s.out with cursor := .next, plan := none } }
  else if s.out.play = .playing then
    if s.fill.state = .ended then s.endProgram else s.starve
  else { s with out := { s.out with cursor := .waiting, plan := none } }

/-- The plan-end step of a FADE, MUTE or DROP (R148, R151): a good slot is read while the plan is still in force
and fades in, a failed read halts the part, and a bad slot is planned anew at its first sample, in the next sample
period (log 13) and with the recorded pair as its anchor (log 31). -/
def State.planEnd (s : State) (kind : PlanKind) : State :=
  match s.store.slots with
  | [] => s.boundaryTest
  | slot :: _ =>
    if slot.quality.readable then
      match s.store.readBlock 0 with
      | some pairs =>
        let t := { s with out := { s.out with plan := none } }.enterSegment slot 0
        let u := t.followerFadeIn (t.table.profileOf slot.segment)
        { u with out := { u.out with buffer := pairs, cursor := .head 0, afterCut := false } }
      | none =>
        { s with out := { s.out with cursor := .next } }.halt ⟨slot.segment, slot.address, 0⟩ kind
    else s.boundaryTest

/-- The gain set to 0 with the consume of a run's first slot whose cut fade began late (R149, log 14). -/
def State.lateCut (s : State) (p : Plan) : State :=
  if p.lateCut && p.left == p.runLength then { s with gain := { s.gain with fade := 0 } } else s

/-- The consume of the finished head block and what follows it (R118, R144 to R146). -/
def State.boundary (s : State) : State :=
  match s.out.plan with
  | none => s.consume.boundaryTest
  | some p =>
    let t := (s.lateCut p).consume
    if 1 < p.left then
      { t with out := { t.out with cursor := .next, plan := some { p with left := p.left - 1 } } }
    else
      let u := { t with out := { t.out with plan := some { p with left := 0 } } }
      match p.kind with
      | .ramp => u.boundaryTest
      | .fade | .mute | .drop => u.planEnd p.kind

/-! ### A DROP's run leaves the store (R147) -/

/-- A DROP's change to DROPPED is due: its fade-out stands at g = 0 while the cursor moves (R147, R150). -/
def State.dropDue (s : State) : Bool :=
  s.moving && s.gain.fade == 0 &&
  match s.out.plan with
  | some p => p.kind == .drop && p.phase == .fading
  | none => false

/-- `n` slots consumed in play order without output time, each the head for no samples (R126, R147). -/
def State.dropRun : Nat → State → State
  | 0, s => s
  | n + 1, s =>
    match s.store.slots with
    | [] => s
    | slot :: _ => State.dropRun n (s.enterSegment slot 0).consume

/-- The change of a DROP plan to DROPPED and its plan end (R147, R148). -/
def State.dropPlan (s : State) : State :=
  match s.out.plan with
  | none => s
  | some p =>
    let t := State.dropRun p.left s
    let u := { t with out := { t.out with plan := some { p with phase := .dropped, left := 0 } } }
    u.planEnd .drop

/-! ### The sample period (R113, R134, R138, R143 to R149) -/

/-- The cut fade of the head slot is requested at the sample at offset `off` (R149): at 480 − Fc, or at the first
sample of a run that starts above it; a DROP spends no output time on it. F is read anew at each sample, so a PROFILE
load in the midst of the slot moves the cut offset and may ask for the cut fade again or not at all (log 33). -/
def State.cutDue (s : State) (slot : Slot) (off : Nat) : Bool :=
  let fc := cutLength s.currentProfile.fadeCode
  slot.cutAfter &&
  match s.out.plan with
  | none => off + fc == Config.pairsPerBlock
  | some p => p.kind != .drop &&
      (off + fc == Config.pairsPerBlock
        || (p.progress == 0 && decide (Config.pairsPerBlock < p.firstOffset + fc)))

/-- The cut fade requested where it is due (R149): it is taken when g is above 0, and one that begins late is
remembered for the slot's consume. -/
def State.requestCut (s : State) (off : Nat) : State :=
  match s.store.slots with
  | [] => s
  | slot :: _ =>
    if s.cutDue slot off then
      let fc := cutLength s.currentProfile.fadeCode
      let t := if 0 < s.gain.fade then s.fixedFade (stepOfLength fc) else s
      let late := decide (Config.pairsPerBlock < off + fc)
      { t with out := { t.out with plan := t.out.plan.map (fun p => { p with lateCut := late }) } }
    else s

/-- The pair a plan gives for its next sample (R143, R145 to R147). -/
def Plan.pair (p : Plan) : Pair :=
  match p.kind with
  | .ramp => Pair.ramp p.anchorA p.anchorB p.samples (p.progress + 1)
  | .fade => if p.fadedOut then Pair.zero else p.anchorA
  | .mute => Pair.zero
  | .drop => p.anchorA

/-- The held pair while g is above 0, zero after (R113). -/
def State.heldPair (s : State) : Pair := if s.gain.fade = 0 then Pair.zero else s.gain.lastPair

/-- The cursor after the pair at an offset has been handed on: the next offset of the block, or the block finished
after offset 479 (R112, R113). -/
def cursorAfter (off : Nat) : Cursor := if off + 1 < Config.pairsPerBlock then .head (off + 1) else .finished

/-- The pre-gain pair of this period and the cursor after it (R113). -/
def State.handOn (s : State) : Pair × State :=
  if s.moving then
    match s.out.cursor with
    | .head off =>
      let t := s.requestCut off
      match t.out.plan with
      | none => (t.out.buffer.getD off Pair.zero, { t with out := { t.out with cursor := cursorAfter off } })
      | some p =>
        if p.kind = .drop then (p.pair, t)
        else (p.pair, { t with out := { t.out with
          cursor := cursorAfter off, plan := some { p with progress := p.progress + 1 } } })
    | _ => (s.heldPair, s)
  else if s.out.play = .starved then (s.heldPair, s)
  else (Pair.zero, s)

/-- The Gain Unit's part of the period: the pair recorded, g moved once, the output pair sent (R133, R134,
R138). A FADE plan whose g is then 0 has faded out (R145). -/
def State.sound (s : State) (pair : Pair) : State :=
  let g := moveFade s.gain.fade s.gain.target s.gain.step
  { s with
    gain := { s.gain with fade := g, lastPair := pair }
    out := { s.out with
      audio := pair.scale (combinedGain g (levelGain s.gain.applied))
      plan := s.out.plan.map (fun p => if s.moving ∧ p.kind = .fade ∧ g = 0 then { p with fadedOut := true } else p) } }

/-- The block whose last pair has been handed on waits for its consume (R113, R118). -/
def State.blockDone (s : State) : Bool := s.moving && s.out.cursor == .finished

/-- The cursor has passed to a slot that now becomes the head (R117). -/
def State.headDue (s : State) : Bool := s.moving && s.out.cursor == .next

/-- What one sample period does once nothing else is due: the head taken, the pair handed on and sent, the consume
after offset 479 unless a fade has just completed (R113, R117, R118, R122), and one more sample period counted. -/
def State.period (s : State) : State :=
  let s := if s.headDue then s.becomeHead else s
  let handed := s.handOn
  let s := handed.2.sound handed.1
  let s := if s.blockDone ∧ s.completionDue = false then s.boundary else s
  { s with out := { s.out with samples := s.out.samples + 1 } }

end Sys2Proof.Machine
end

