-- ==== Sys2Proof/Machine/Tray.lean ====
section
/-! DEFINITION. The Tray Unit (spec/09): the TRAY report, the save step, the Resume Table, the list signature,
the resume of a record, and what an edge of the tray line does. -/

namespace Sys2Proof.Machine

/-! ### The list signature and the Resume Table (R172, R173) -/

/-- The 8 bytes a play list entry contributes to the list signature (R173). -/
def PlayEntry.signatureBytes (e : PlayEntry) : List Byte :=
  beBytes 3 e.first ++ beBytes 3 e.last
    ++ [byteOf e.profile.val, byteOf (e.valid.toNat + 2 * e.eol.toNat)]

/-- The list signature: the CRC-16 over the 64 entries in index order (R173). -/
def Tables.signature (t : Tables) : CheckWord := crc16 (t.playList.toList.flatMap PlayEntry.signatureBytes)

/-- An insertion into the Resume Table: a record with the same fingerprint goes, the new record stands first, a
ninth record goes (R172). -/
def insertRecord (l : List ResumeRecord) (r : ResumeRecord) : List ResumeRecord :=
  (r :: l.filter (fun x => x.fingerprint != r.fingerprint)).take Config.resumeCapacity

/-- The record of a fingerprint, if the table holds one (R174). -/
def findRecord (l : List ResumeRecord) (f : Fingerprint) : Option ResumeRecord :=
  l.find? (fun x => x.fingerprint == f)

/-- The record moved to the front of the table, as it is used for a resume (R172, R176). -/
def useRecord (l : List ResumeRecord) (r : ResumeRecord) : List ResumeRecord :=
  r :: l.filter (fun x => x.fingerprint != r.fingerprint)

/-! ### The save step and the STOP completion (R124, R168, R170) -/

/-- The save step (R168): the record, the flush, the fill stop, the fingerprint, the tray state. -/
def State.save (s : State) : State :=
  let pos := s.savePosition
  let records := match s.tray.fingerprint with
    | some f => insertRecord s.tray.records ⟨f, s.table.signature, pos, s.gain.applied, s.table.repeatFlag⟩
    | none => s.tray.records
  let t := s.flush.fillStop
  { t with
    out := { t.out with cursor := .none, startOffset := 0 }
    tray := { t.tray with
      records := records, fingerprint := none, state := trayAfterFade t.tray.line, saved := some pos } }

/-- The STOP completion (R124), which takes the tray out of FADING without a save (R170). -/
def State.completeStop (s : State) : State :=
  let t := (s.enter .idle).flush.fillStop
  { t with
    out := { t.out with cursor := .none, startOffset := 0 }
    tray := t.tray.leaveFading }

/-! ### Edges of the tray line (R162 to R167) -/

/-- The TRAY report created, or updated where one waits (R163). -/
def State.postTray (s : State) : State := s.post (.tray s.tray.line s.tray.state)

/-- What every edge does first: the line at its new level, the pending flag set, the edge counted (R162). -/
def Tray.takeEdge (tr : Tray) (line : TrayLine) : Tray :=
  { tr with line := line, pendingFlag := true, edges := min (tr.edges + 1) 255 }

/-- An open edge in CLOSED by the play state (R166). The fade toward the save starts, and where g already stands
at 0 the save step is taken in the same handling. -/
def State.openFromClosed (s : State) : State :=
  match s.out.play with
  | .playing | .pausing | .starved | .priming | .paused =>
    let t := { s with tray := { s.tray with state := .fading } }.enter .trayHold
    if t.gain.fade = 0 then t.save else t
  | .stopping => { s with tray := { s.tray with state := .fading } }
  | .idle | .halted => { s with tray := { s.tray with state := .opened, fingerprint := none } }
  | .trayHold => s

/-- An open edge (R162, R166, R167). A line that is low already has no falling edge (log 7). -/
def State.takeOpenEdge (s : State) : State :=
  match s.tray.line with
  | .low => s
  | .high =>
    let t := { s with tray := s.tray.takeEdge .low }
    (match t.tray.state with
      | .closed => t.openFromClosed
      | .settling => { t with
          tray := { t.tray with state := .opened }
          timer := { t.timer with settleDue := false } }
      | .awaitId => { t with tray := { t.tray with state := .opened } }
      | .fading | .opened => t).postTray

/-- A close edge (R162, R167): the timebase is cleared, and OPEN becomes SETTLING. A line that is high already
has no rising edge (log 7). -/
def State.takeCloseEdge (s : State) : State :=
  match s.tray.line with
  | .high => s
  | .low =>
    let t := { s with tray := s.tray.takeEdge .high, timer := s.timer.clear }
    (match t.tray.state with
      | .opened => { t with tray := { t.tray with state := .settling } }
      | .closed | .fading | .settling | .awaitId => t).postTray

/-! ### Starting a fill at a position (R68, R115, R176) -/

/-- The common part of PLAY and a resume: silence at once, the cursor waiting at the position, the store flushed,
E and the fill segment set, the cause issued, PRIMING entered (R68, R115, R176). The step and its source stay, as the
cut off of a PLAY leaves them (R135). -/
def State.startAt (s : State) (pos : Position) (reason : Reason) : State :=
  let t := s.cutOff.flush.dropRecovery
  { t with
    out := { t.out with
      play := .priming, cursor := .waiting, startOffset := pos.offset, cursorSegment := none }
    track := { t.track with segment := pos.segment, expected := pos.address } }.issueNew reason none

/-- A resume from a record (R176). Its transition to PRIMING asks for the state fade of R135, the cursor segment none
and so the step that of profile 0 (R114). -/
def State.resumeFrom (s : State) (r : ResumeRecord) : State :=
  let t := { s with
    gain := { s.gain with requested := r.level, applied := r.level }
    table := { s.table with repeatFlag := r.repeatFlag } }.startAt r.position .resume |>.enter .priming
  { t with tray := { t.tray with records := useRecord t.tray.records r, saved := none } }

/-- The resume decision's first case that applies, short of the resume itself (R175). -/
def State.resumeOutcome (s : State) (f : Fingerprint) : ResumeOutcome :=
  match findRecord s.tray.records f with
  | none => .noRecord
  | some r =>
    let e := s.table.entry r.position.segment
    if s.table.signature ≠ r.signature then .refusedFormat
    else if e.valid = false ∨ r.position.address < e.first ∨ e.last < r.position.address then .refusedPosition
    else .resumed

/-- An IDENTIFY accepted in AWAIT_ID with the play state TRAY_HOLD (R175 to R177). -/
def State.decideResume (s : State) (f : Fingerprint) : State :=
  let record := findRecord s.tray.records f
  let outcome := s.resumeOutcome f
  let t := { s with tray := { s.tray with fingerprint := some f, state := .closed } }
  (match outcome, record with
    | .resumed, some r => t.resumeFrom r
    | _, _ =>
      let u := t.enter .idle
      { u with tray := { u.tray with saved := none } }).post
    (.resume outcome f (record.map ResumeRecord.position))

end Sys2Proof.Machine
end

