-- ==== Sys2Proof/Machine/Flags.lean ====
section
/-! DEFINITION. The conditions under which an event of the part is due, and what each event does when it is; an
event that is not due has no effect (log 1). -/

namespace Sys2Proof.Machine

/-! ### The timebase (R136, R153 to R156, R159) -/

/-- The selected period P of a watchdog code, in block periods (R156). -/
def watchdogPeriod (code : Nat) : Nat := 8 * 2 ^ code

/-- A rise of the timebase with its carries (R153): a carry of the selected period raises an armed watchdog
below 3 and makes its expiry due at 3 (R156); the settle comparator and the carry out of bit 6 make their
events due (R127, R159). -/
def Timer.rise (t : Timer) (c : ConfigRecord) (settling : Bool) : Timer :=
  let n := (t.count + 1) % 65536
  let carry := t.armed && n % watchdogPeriod c.watchdogCode == 0
  { t with
    count := n
    watchdog := if carry ∧ t.watchdog < 3 then t.watchdog + 1 else t.watchdog
    expiryDue := t.expiryDue || (carry && decide (3 ≤ t.watchdog))
    settleDue := settling && decide (c.settle ≤ n)
    positionDue := t.positionDue || n % 128 == 0 }

/-- The end of a block period is due when 480 sample periods have been counted (R113). -/
def State.periodEndDue (s : State) : Bool := decide (Config.pairsPerBlock ≤ s.out.samples)

/-- The end of a block period (R136, R153). -/
def State.takePeriodEnd (s : State) : State :=
  if s.periodEndDue then
    { s with
      out := { s.out with samples := 0 }
      gain := { s.gain with applied := moveLevel s.gain.applied s.gain.requested }
      timer := s.timer.rise s.table.config (s.tray.state == .settling) }
  else s

/-- The carry that found the watchdog at 3 taken (R156): with the counter still at 3 it is the expiry and the
Recovery Controller takes a retry; after an event that cleared the counter it counts from 0, and a disarmed
watchdog takes no notice (R158). -/
def State.takeExpiry (s : State) : State :=
  if s.timer.expiryDue then
    let t := { s with timer := { s.timer with expiryDue := false } }
    if s.timer.armed = false then t
    else if s.timer.watchdog < 3 then { t with timer := { t.timer with watchdog := s.timer.watchdog + 1 } }
    else { t with timer := { t.timer with watchdog := 0 } }.retryRecovery
  else s

/-- The settle end (R159). -/
def State.takeSettleEnd (s : State) : State :=
  if s.timer.settleDue then
    let t := { s with timer := { s.timer with settleDue := false } }
    if s.tray.state = .settling then { t with tray := { t.tray with state := .awaitId } } else t
  else s

/-- The periodic POSITION report (R127): after a save step it carries the saved position. -/
def State.takePeriodicPosition (s : State) : State :=
  if s.timer.positionDue then
    let t := { s with timer := { s.timer with positionDue := false } }
    if s.table.config.positionMode = .periodic ∧ s.out.play ≠ .idle ∧ s.out.play ≠ .halted then
      t.post (.position .periodic (s.tray.saved.getD s.cursorPosition) s.out.play)
    else t
  else s

/-! ### Gain events (R122, R124, R147, R168) -/

/-- A DROP's change to DROPPED (R147). -/
def State.takeDropped (s : State) : State := if s.dropDue then s.dropPlan else s

/-- PAUSED entered as g stands at 0 in PAUSING (R122). -/
def State.takePausedEntry (s : State) : State :=
  if s.out.play = .pausing ∧ s.gain.fade = 0 then s.enter .paused else s

/-- The STOP completion as g stands at 0 in STOPPING (R124). -/
def State.takeStopCompletion (s : State) : State :=
  if s.out.play = .stopping ∧ s.gain.fade = 0 then s.completeStop else s

/-- The save step as g stands at 0 in FADING with TRAY_HOLD (R168). -/
def State.takeSaveStep (s : State) : State :=
  if s.beforeSave = true ∧ s.gain.fade = 0 then s.save else s

/-! ### Events of the occupancy (R82, R86, R116, R120) -/

/-- The start test (R116). -/
def State.startTest (s : State) : Bool :=
  decide (s.store.start ≤ s.store.count)
  || (decide (1 ≤ s.store.count)
      && (s.fill.state == .ended || s.fill.state == .abandonWait || s.fill.state == .pausedFull))

/-- The head slot is to become the head for output in the next sample period, in PLAYING (R116, R120). -/
def State.beginPlaying (s : State) : State :=
  let t := s.enter .playing
  { t with out := { t.out with cursor := .next } }

/-- The start test passed in PRIMING (R116). It sees the fill state and C as a row leaves them: a fill state entered and
left within one row is not tested (log 34). -/
def State.takeStartTest (s : State) : State :=
  if s.out.play = .priming ∧ s.startTest = true then s.beginPlaying else s

/-- The start test passed in STARVED with g at 0, on the state as a row leaves it (R120, log 34). -/
def State.takeStarvedRecovery (s : State) : State :=
  if s.out.play = .starved ∧ s.gain.fade = 0 ∧ s.startTest = true then s.beginPlaying else s

/-- The REFILL test of PAUSED_FULL (R86). -/
def State.takeRefill (s : State) : State := s.refillIfDue

/-- The owed placeholder run asked for again in ABANDON_WAIT (R82). -/
def State.takePlaceholderRun (s : State) : State :=
  match s.fill.owed with
  | none => s
  | some run =>
    if s.fill.state = .abandonWait ∧ s.store.admitsRun run.first run.length = true then
      ((s.leaveRecovery .abandonWait).appendRun run.first run.length).continueAbandon (run.first + run.length - 1)
    else s

/-! ### The sample period -/

/-- Whatever is due, taken before a sample period begins (log 2). -/
def State.takeDue (s : State) : State :=
  s.takePeriodEnd.takeExpiry.takeSettleEnd.takePeriodicPosition
    |>.takeDropped.takePausedEntry.takeStopCompletion.takeSaveStep
    |>.takeRefill.takePlaceholderRun.takeStartTest.takeStarvedRecovery

/-- The state after the external DRAM lost bytes by itself (log 10). -/
def State.upset (s : State) (changes : List (Nat × Byte)) : State :=
  { s with store := { s.store with dram := Memory.upset s.store.dram changes } }

/-! ### The reverse transmitter's choice (R42) -/

/-- A SEEK is sent next: it waits, and no frame is being sent (R42). -/
def State.seekDue (s : State) : Bool := s.link.sending.isNone && s.link.seek.isSome

/-- A READ_PAUSE is sent next (R42). -/
def State.pauseDue (s : State) : Bool := s.link.sending.isNone && s.link.seek.isNone && s.link.pause

/-- A report is sent next (R42). -/
def State.reportDue (s : State) : Bool :=
  s.link.sending.isNone && s.link.seek.isNone && !s.link.pause && !s.reports.isEmpty

end Sys2Proof.Machine
end

