-- ==== Sys2Proof/Machine/Operands.lean ====
section
/-! DEFINITION. The operand forms: parameters of commands and records of tables, read from their bytes and
clamped (R131, R180 to R187, R192), and the same records and the reports as bytes on the link (R192, R193). -/

namespace Sys2Proof.Machine

/-! ### Reading (R192) -/

/-- A play list index, if the byte is one. -/
def segmentOf (b : Byte) : Option SegmentIndex :=
  if h : b.toNat < 64 then some ⟨b.toNat, h⟩ else none

/-- A profile index, if the byte is one. -/
def profileIndexOf (b : Byte) : Option ProfileIndex :=
  if h : b.toNat < 4 then some ⟨b.toNat, h⟩ else none

/-- The parameters of PLAY: a segment byte, and an address in the longer form (R192). -/
def readPlay : List Byte → Option (Byte × Option Addr)
  | [seg] => some (seg, none)
  | [seg, a2, a1, a0] => some (seg, some (beNat [a2, a1, a0]))
  | _ => none

/-- A single parameter byte (R192). -/
def readOne : List Byte → Option Byte
  | [b] => some b
  | _ => none

/-- The fingerprint of IDENTIFY (R192). -/
def readFingerprint : List Byte → Option Fingerprint
  | [b3, b2, b1, b0] => some (b3 ++ b2 ++ b1 ++ b0)
  | _ => none

/-- The fields of a SEGMENT record as received (R184, R192). -/
structure SegmentRecord where
  index : Byte
  first : Addr
  last : Addr
  profile : Byte
  flags : Byte
  deriving DecidableEq, Repr

/-- A SEGMENT record of exactly its length (R192). -/
def readSegment : List Byte → Option SegmentRecord
  | [i, s2, s1, s0, e2, e1, e0, p, fl] => some ⟨i, beNat [s2, s1, s0], beNat [e2, e1, e0], p, fl⟩
  | _ => none

/-- The play list entry a SEGMENT record writes, or `none` where its fields are refused (R184). -/
def SegmentRecord.entry (r : SegmentRecord) : Option (SegmentIndex × PlayEntry) :=
  match segmentOf r.index, profileIndexOf r.profile with
  | some i, some p =>
    if r.last < r.first then none else some (i, ⟨r.first, r.last, p, r.flags.getLsbD 0, r.flags.getLsbD 1⟩)
  | _, _ => none

/-- A long action code: a code above 2 is taken as DROP (R131). -/
def longActionOf (b : Byte) : LongAction :=
  match b.toNat with
  | 0 => .fade
  | 1 => .mute
  | _ => .drop

/-- A PROFILE record of exactly its length, its index byte and its fields clamped (R131, R185, R192). -/
def readProfile : List Byte → Option (Byte × Profile)
  | [i, ramp, long, fade, enable, lead] =>
    some (i, ⟨min ramp.toNat 8, longActionOf long, min fade.toNat 6, flagOf enable, max lead.toNat 16⟩)
  | _ => none

/-- A position mode code: a code above 2 is taken as PERIODIC (R187). -/
def positionModeOf (b : Byte) : PositionMode :=
  match b.toNat with
  | 0 => .off
  | 1 => .segment
  | _ => .periodic

/-- A tray sensitivity code: a code above 1 is taken as EDGE_AND_LEVEL (R187). -/
def sensitivityOf (b : Byte) : Sensitivity := if b = 0x00#8 then .edge else .edgeAndLevel

/-- A CONFIG record of exactly its length, the fields after the first four clamped (R187, R192). -/
def readConfig : List Byte → Option ConfigRecord
  | [d1, d0, margin, r1, r0, start, window, runIn, retry, skip, abandon, attempts, code, settle, mask,
      mode, sensitivity] =>
    some {
      depth := beNat [d1, d0]
      highMargin := margin.toNat
      refill := beNat [r1, r0]
      start := start.toNat
      window := max window.toNat 1
      runIn := min runIn.toNat 63
      retryLimit := max 1 (min retry.toNat 15)
      skipAhead := max skip.toNat 1
      abandonLimit := max 1 (min abandon.toNat 7)
      attemptLimit := max 1 (min attempts.toNat 3)
      watchdogCode := min code.toNat 3
      settle := settle.toNat
      mask := min mask.toNat 7
      positionMode := positionModeOf mode
      sensitivity := sensitivityOf sensitivity }
  | _ => none

/-- The fields of a RESUME record as received (R186, R192). -/
structure ResumeFields where
  fingerprint : Fingerprint
  signature : CheckWord
  segment : Byte
  address : Addr
  offset : Nat
  level : Byte
  repeatByte : Byte
  deriving DecidableEq, Repr

/-- A RESUME record of exactly its length (R192). -/
def readResume : List Byte → Option ResumeFields
  | [f3, f2, f1, f0, s1, s0, seg, a2, a1, a0, o1, o0, level, rep] =>
    some ⟨f3 ++ f2 ++ f1 ++ f0, s1 ++ s0, seg, beNat [a2, a1, a0], beNat [o1, o0], level, rep⟩
  | _ => none

/-- The resume record a RESUME load inserts, or `none` where its fields are refused (R186). -/
def ResumeFields.record (r : ResumeFields) : Option ResumeRecord :=
  match segmentOf r.segment with
  | some seg =>
    if r.offset < Config.pairsPerBlock then
      some ⟨r.fingerprint, r.signature, ⟨seg, r.address, r.offset⟩, min r.level.toNat 63, flagOf r.repeatByte⟩
    else none
  | none => none

/-! ### Codes, from 0 in the order of listing (R192, log 18) -/

/-- The code of a play state (R111, R192). -/
def PlayState.code : PlayState → Nat
  | .idle => 0 | .priming => 1 | .playing => 2 | .pausing => 3 | .paused => 4
  | .starved => 5 | .stopping => 6 | .trayHold => 7 | .halted => 8

/-- The code of a fill state (R62, R192). -/
def FillState.code : FillState → Nat
  | .stopped => 0 | .seeking => 1 | .relocking => 2 | .tracking => 3
  | .pausedFull => 4 | .abandonWait => 5 | .ended => 6 | .halted => 7

/-- The code of a tray state (R165, R192). -/
def TrayState.code : TrayState → Nat
  | .closed => 0 | .fading => 1 | .opened => 2 | .settling => 3 | .awaitId => 4

/-- The code of a quality (R2, R192). -/
def Quality.code : Quality → Nat
  | .clean => 0 | .repaired => 1 | .damaged => 2 | .missing => 3

/-- The code of a vote (R58, R192). -/
def Vote.code : Vote → Nat
  | .clean => 0 | .noisy => 1

/-- The SEEK reason code (R33). -/
def Reason.code : Reason → Nat
  | .start => 1 | .segment => 2 | .resume => 3 | .skip => 4 | .refill => 5 | .repair => 6

/-- The code of a plan kind (R141, R192). -/
def PlanKind.code : PlanKind → Nat
  | .ramp => 0 | .fade => 1 | .mute => 2 | .drop => 3

/-- The code of a long action (R131). -/
def LongAction.code : LongAction → Nat
  | .fade => 0 | .mute => 1 | .drop => 2

/-- The code of a CONCEALED report's first slot (R142, R192). -/
def FirstSlot.code : FirstSlot → Nat
  | .damaged => 0 | .missing => 1 | .check => 2

/-- The code of a position mode (R187, R192). -/
def PositionMode.code : PositionMode → Nat
  | .off => 0 | .segment => 1 | .periodic => 2

/-- The code of a tray sensitivity (R187, R192). -/
def Sensitivity.code : Sensitivity → Nat
  | .edge => 0 | .edgeAndLevel => 1

/-- The code of a FRAME_CHECK cause (R31, R192). -/
def CheckCause.code : CheckCause → Nat
  | .kind => 0 | .length => 1 | .crc => 2 | .body => 3

/-- The frame byte of a RESULT (R193). -/
def FrameSource.code : FrameSource → Nat
  | .command => 3 | .table => 4

/-- The code of a RESULT outcome (R179, R193). -/
def ResultCode.code : ResultCode → Nat
  | .done => 0 | .busy => 1 | .invalid => 2 | .inUse => 3 | .format => 4 | .tray => 5 | .halted => 6

/-- The code of a POSITION cause (R126, R192). -/
def PositionCause.code : PositionCause → Nat
  | .segment => 0 | .periodic => 1

/-- The code of a RESUME outcome, in the order of R177's table of the report and not that of R175's cases (R192,
log 18). -/
def ResumeOutcome.code : ResumeOutcome → Nat
  | .resumed => 0 | .refusedFormat => 1 | .refusedPosition => 2 | .noRecord => 3

/-- The line byte of a TRAY report: OPEN 0 when low, CLOSED 1 when high (R163, R192). -/
def lineCode : TrayLine → Nat
  | .low => 0 | .high => 1

/-- The status byte of a SEEK_DONE (R33). -/
def seekStatusCode : SeekStatus → Nat
  | .locked => 0 | .failed => 1

/-- The record byte of a RESULT: PRESENT 0, ABSENT 1 (R179, R192, log 18). -/
def recordCode (present : Bool) : Nat := if present then 0 else 1

/-! ### Records as they are read back (R181, R192) -/

/-- The bytes of a play list entry after the format byte, its index among them (R181, R192). Bits 2 to 7 of the flags,
which a load does not keep, are sent as 0 (log 35). -/
def PlayEntry.bytes (e : PlayEntry) (index : Byte) : List Byte :=
  index :: beBytes 3 e.first ++ beBytes 3 e.last
    ++ [byteOf e.profile.val, byteOf (e.valid.toNat + 2 * e.eol.toNat)]

/-- The bytes of a profile after the format byte, its index among them (R181, R192). -/
def Profile.bytes (p : Profile) (index : Byte) : List Byte :=
  [index, byteOf p.rampLimit, byteOf p.longAction.code, byteOf p.fadeCode, flagByte p.repairEnable,
    byteOf p.repairLead]

/-- The bytes of the configuration record after the format byte (R181, R192). -/
def ConfigRecord.bytes (c : ConfigRecord) : List Byte :=
  beBytes 2 c.depth ++ [byteOf c.highMargin] ++ beBytes 2 c.refill
    ++ [byteOf c.start, byteOf c.window, byteOf c.runIn, byteOf c.retryLimit, byteOf c.skipAhead,
        byteOf c.abandonLimit, byteOf c.attemptLimit, byteOf c.watchdogCode, byteOf c.settle, byteOf c.mask,
        byteOf c.positionMode.code, byteOf c.sensitivity.code]

/-- The bytes of a resume record after the format byte (R181, R192). -/
def ResumeRecord.bytes (r : ResumeRecord) : List Byte :=
  beBytes 4 r.fingerprint.toNat ++ beBytes 2 r.signature.toNat ++ [byteOf r.position.segment.val]
    ++ beBytes 3 r.position.address ++ beBytes 2 r.position.offset ++ [byteOf r.level, flagByte r.repeatFlag]

/-! ### Reports on the link (R33, R193) -/

/-- The kind code of a report (R193). -/
def Report.kindCode : Report → Nat
  | .result .. => 0x01
  | .status .. => 0x02
  | .tableReply .. => 0x03
  | .frameCheck .. => 0x04
  | .lateAnswer .. => 0x05
  | .skipDetected .. => 0x06
  | .repaired .. => 0x07
  | .concealed .. => 0x08
  | .starved .. => 0x09
  | .stopReached .. => 0x0A
  | .endOfList .. => 0x0B
  | .position .. => 0x0C
  | .segmentGivenUp .. => 0x0D
  | .resume .. => 0x0E
  | .tray .. => 0x0F
  | .halted .. => 0x10

/-- Segment, address and offset of a position, in that order (R193). -/
def Position.bytes (p : Position) : List Byte :=
  byteOf p.segment.val :: beBytes 3 p.address ++ beBytes 2 p.offset

/-- The fields of a STATUS report (R182, R193). -/
def StatusReply.bytes (f : StatusReply) : List Byte :=
  [byteOf f.play.code, byteOf f.fill.code, byteOf f.tray.code] ++ beBytes 3 f.headAddress ++ beBytes 2 f.offset
    ++ beBytes 2 f.count ++ beBytes 2 f.depth
    ++ [byteOf f.faults, byteOf f.retry, byteOf f.abandon, byteOf f.level, flagByte f.fingerprint.isSome]
    ++ beBytes 4 ((f.fingerprint.map BitVec.toNat).getD 0) ++ beBytes 2 f.noisy

/-- The fields of a report after its three opening bytes, the edge count given for a TRAY report (R163, R193). -/
def Report.fields (r : Report) (edges : Nat) : List Byte :=
  match r with
  | .result source code outcome present =>
    [byteOf source.code, code, byteOf outcome.code, byteOf (recordCode present)]
  | .status f => f.bytes
  | .tableReply format index record => [format, index, flagByte record.isSome] ++ record.getD []
  | .frameCheck kind cause => [kind, byteOf cause.code]
  | .lateAnswer tag answer => [tag.setWidth 8, byteOf (seekStatusCode answer)]
  | .skipDetected arrived expected seg vote =>
    beBytes 3 arrived ++ beBytes 3 expected ++ [byteOf seg.val, byteOf vote.code]
  | .repaired address seg quality attempts distance =>
    beBytes 3 address ++ [byteOf seg.val, byteOf quality.code, byteOf (attempts.getD 255)] ++ beBytes 2 distance
  | .concealed plan runLength address seg first fallback =>
    byteOf plan.code :: beBytes 2 runLength ++ beBytes 3 address
      ++ [byteOf seg.val, byteOf first.code, flagByte fallback]
  | .starved seg address fill => byteOf seg.val :: beBytes 3 address ++ [byteOf fill.code]
  | .stopReached seg address | .endOfList seg address => byteOf seg.val :: beBytes 3 address
  | .position cause pos play => byteOf cause.code :: pos.bytes ++ [byteOf play.code]
  | .segmentGivenUp seg first following =>
    byteOf seg.val :: beBytes 3 first ++ [byteOf ((following.map Fin.val).getD 255)]
  | .resume outcome f pos =>
    byteOf outcome.code :: beBytes 4 f.toNat ++ (pos.getD ⟨0, 0, 0⟩).bytes
  | .tray line state => [byteOf (lineCode line), byteOf edges, byteOf state.code]
  | .halted pos plan => pos.bytes ++ [byteOf plan.code]

/-- The REPORT frame of an entry (R33, R42, R193). -/
def ReportEntry.frame (e : ReportEntry) (edges : Nat) : List Byte :=
  controlFrame 0x83#8
    ([byteOf e.report.kindCode, byteOf e.report.level, flagByte e.overrun] ++ e.report.fields edges)

/-- The SEEK frame of a request (R33). -/
def SeekRequest.frame (r : SeekRequest) : List Byte :=
  controlFrame 0x81#8 (r.tag.setWidth 8 :: beBytes 3 r.target ++ [byteOf r.reason.code])

/-- The READ_PAUSE frame (R33). -/
def readPauseFrame : List Byte := controlFrame 0x82#8 []

end Sys2Proof.Machine
end

