-- ==== Sys2Proof/Decode.lean ====
section
/-! DEFINITION. What reaches the part, read into commands. The table gives no row any bits, so `decodeTableWord`
answers none; `decodeUnit` reads a whole forward unit of the link, total on any bytes, by the checks of R26 to
R30 and the codes of R192. -/

namespace Sys2Proof

/-- The command a table word spells: none, since no row of spec/opcode_table.json has bits. -/
def decodeTableWord (_nbits _w : Nat) : Option Instr := none

/-- The refusal of a control frame by its length byte, its length and its CRC-8 (R27, R28, R30). -/
def controlCause : List Byte → Option Machine.CheckCause
  | kind :: n :: rest =>
    if Config.maxBody < n.toNat ∨ rest.length ≠ n.toNat + 1 then some .length
    else if (kind :: n :: rest).getLast? ≠ some (Machine.crc8 (kind :: n :: rest).dropLast) then some .crc
    else none
  | _ => some .length

/-- The body of a control frame: what stands between its length byte and its CRC-8 (R33). -/
def controlBody (unit : List Byte) : List Byte := (unit.drop 2).dropLast

/-- The tag and status of a SEEK_DONE body, if they are well formed (R29). -/
def readSeekDone : List Byte → Option (Tag × SeekStatus)
  | [tag, status] =>
    if 15 < tag.toNat then none
    else if status = 0x00#8 then some (tag.setWidth 4, .locked)
    else if status = 0x01#8 then some (tag.setWidth 4, .failed)
    else none
  | _ => none

/-- The first check a forward unit fails, in the order kind, length, CRC-8, body (R26 to R30). -/
def unitCause (unit : List Byte) : Option Machine.CheckCause :=
  match unit.head? with
  | none => some .kind
  | some kind =>
    if kind = 0x01#8 then (if unit.length = 1934 then none else some .length)
    else if kind = 0x02#8 then
      match controlCause unit with
      | some c => some c
      | none => if (readSeekDone (controlBody unit)).isNone then some .body else none
    else if kind = 0x03#8 ∨ kind = 0x04#8 then controlCause unit
    else some .kind

/-- The kind byte a FRAME_CHECK report carries: 00h for an empty unit (R31). -/
def unitKind (unit : List Byte) : Byte := unit.headD 0x00#8

/-- Three bytes as a 24-bit address copy, high byte first (R33). -/
def copyOf (bytes : List Byte) : BitVec 24 := BitVec.ofNat 24 (Machine.beNat bytes)

/-- The fields of a SECTOR unit by the layout of R33. -/
def readSector (unit : List Byte) : SectorFrame where
  copyA := copyOf ((unit.drop 1).take 3)
  quality := (unit.drop 4).headD 0x00#8
  payload := (unit.drop 6).take Config.areaBytes
  copyB := copyOf ((unit.drop 1926).take 3)
  copyC := copyOf ((unit.drop 1929).take 3)
  check := BitVec.ofNat 16 (Machine.beNat (unit.drop 1932))

/-- One of the thirteen command codes (R192). -/
def knownCode (code : Byte) : Bool := decide (1 ≤ code.toNat ∧ code.toNat ≤ 13)

/-- One of the four record formats (R192). -/
def knownFormat (format : Byte) : Bool := decide (0x11 ≤ format.toNat ∧ format.toNat ≤ 0x14)

/-- The command of a COMMAND body (R180, R192). -/
def decodeCommand (body : List Byte) : Instr :=
  match body with
  | [] => .unknownCommandCode body
  | code :: params =>
    match code.toNat with
    | 0x01 => .play params
    | 0x02 => .pause params
    | 0x03 => .resume params
    | 0x04 => .stop params
    | 0x05 => .setLevel params
    | 0x06 => .setStop params
    | 0x07 => .setRepeat params
    | 0x08 => .cue params
    | 0x09 => .identify params
    | 0x0A => .ackTray params
    | 0x0B => .clearTimebase params
    | 0x0C => if params.head? = some 0x00#8 then .queryStatus params.tail else .queryTable params
    | 0x0D => .softReset params
    | _ => .unknownCommandCode body

/-- The load of a TABLE body (R183, R192). -/
def decodeTable (body : List Byte) : Instr :=
  match body with
  | [] => .unknownTableFormat body
  | format :: record =>
    match format.toNat with
    | 0x11 => .segmentLoad record
    | 0x12 => .profileLoad record
    | 0x13 => .configLoad record
    | 0x14 => .resumeLoad record
    | _ => .unknownTableFormat body

/-- The command a forward unit is, whatever its bytes (R26 to R30). -/
def decodeUnit (unit : List Byte) : Instr :=
  if (unitCause unit).isSome then .refusedForwardUnit unit
  else match (unitKind unit).toNat with
    | 0x01 => .sector (readSector unit)
    | 0x02 =>
      match readSeekDone (controlBody unit) with
      | some (tag, status) => .seekDone tag status
      | none => .refusedForwardUnit unit
    | 0x03 => decodeCommand (controlBody unit)
    | _ => decodeTable (controlBody unit)

end Sys2Proof
end

