-- ==== Sys2Proof/WellFormed.lean ====
section
/-! DEFINITION. Which operands a command can carry: what each row's frame, body or line admits. A command whose
operands are not well formed cannot reach the part as that row, and `exec` gives it no effect (log 6). -/

namespace Sys2Proof

/-- A unit that a check of R30 refuses. -/
abbrev refusedUnit (unit : List Byte) : Prop := unitCause unit ≠ none

/-- A SECTOR frame has 1,920 payload bytes (R33). -/
abbrev SectorFrame.wellFormed (f : SectorFrame) : Prop := f.payload.length = Config.areaBytes

/-- The bytes after a code or format byte fill the rest of a body of at most 60 bytes (R27). -/
abbrev fitsBody (bytes : List Byte) : Prop := bytes.length + 1 ≤ Config.maxBody

/-- A COMMAND body that is empty or has a code outside the thirteen (R180). -/
abbrev unknownCode (body : List Byte) : Prop :=
  body.length ≤ Config.maxBody ∧ (body.head?.map knownCode).getD false = false

/-- A TABLE body that is empty or has an unknown format byte (R183). -/
abbrev unknownFormat (body : List Byte) : Prop :=
  body.length ≤ Config.maxBody ∧ (body.head?.map knownFormat).getD false = false

/-- DRAM bytes lie inside the device (R3). -/
abbrev insideDram (upset : List (Nat × Byte)) : Prop := ∀ c ∈ upset, c.1 < Config.dramBytes

/-- The operands a row admits. -/
def Instr.wellFormed : Instr → Bool
  | .refusedForwardUnit unit => decide (refusedUnit unit)
  | .sector f => decide f.wellFormed
  | .play b | .pause b | .resume b | .stop b | .setLevel b | .setStop b | .setRepeat b | .cue b | .identify b
  | .ackTray b | .clearTimebase b | .softReset b => decide (fitsBody b)
  | .queryStatus b => decide (b.length + 2 ≤ Config.maxBody)
  | .queryTable b => decide (fitsBody b ∧ b.head? ≠ some 0x00#8)
  | .segmentLoad b | .profileLoad b | .configLoad b | .resumeLoad b => decide (fitsBody b)
  | .samplePeriod u | .dropped u => decide (insideDram u)
  | .unknownCommandCode body => decide (unknownCode body)
  | .unknownTableFormat body => decide (unknownFormat body)
  | .hardReset _ | .seekDone _ _ | .openEdge | .closeEdge | .blockPeriodEnd | .watchdogExpiry | .settleEnd
  | .periodicPosition | .stopCompletion | .pausedEntry | .saveStep | .startTestPass | .starvedRecovery
  | .refill | .placeholderRun | .seekSend | .readPauseSend | .reportSend | .reverseFrameEnd => true

end Sys2Proof
end

