-- ==== Sys2Proof/Machine/Link.lean ====
section
/-! DEFINITION. The Link Interface: the meanings of the rows that arrive on the forward link beside COMMAND and
TABLE frames, and of the reverse transmitter's rows (spec/02). -/

namespace Sys2Proof.Machine

/-- The outcome of every command of the part: a next state. -/
abbrev Effect := Host.Outcome State Fault Refusal

/-- REFUSED_FORWARD_UNIT (R30, R31): one FRAME_CHECK report with the kind byte and the first failed check. A unit
that passes its checks is not refused and has no effect as this row (log 6). -/
def execRefusedForwardUnit (unit : List Byte) (s : State) : Effect :=
  .next (match unitCause unit with
    | some cause => s.post (.frameCheck (unitKind unit) cause)
    | none => s)

/-- SECTOR (R34 to R38, R45): the vote counted, the arrival handed on and handled by fill state. A frame without
its 1,920 payload bytes is no SECTOR frame and has no effect as this row (R27, log 6). -/
def execSector (frame : SectorFrame) (s : State) : Effect :=
  .next (if frame.payload.length = Config.areaBytes then
      let a := arrivalOf frame
      { s with link := s.link.countVote a.address }.arrive a
    else s)

/-- SEEK_DONE (R39, R71, R72). -/
def execSeekDone (tag : Tag) (status : SeekStatus) (s : State) : Effect :=
  .next (s.seekAnswer tag status)

/-- SEEK_SEND (R42): the pending SEEK's frame begins and the slot is emptied. -/
def execSeekSend (s : State) : Effect :=
  .next (match s.link.seek with
    | some r =>
      if s.seekDue then { s with link := { s.link with sending := some r.frame, seek := none } } else s
    | none => s)

/-- READ_PAUSE_SEND (R42): the frame begins and the flag is cleared. -/
def execReadPauseSend (s : State) : Effect :=
  .next (if s.pauseDue then { s with link := { s.link with sending := some readPauseFrame, pause := false } }
    else s)

/-- REPORT_SEND (R42, R163): the oldest entry leaves the queue and its frame begins; a TRAY report takes the edge
count and zeroes it. -/
def execReportSend (s : State) : Effect :=
  .next (match s.reports with
    | e :: rest =>
      if s.reportDue then
        { s with
          reports := rest
          link := { s.link with sending := some (e.frame s.tray.edges) }
          tray := { s.tray with edges := if e.report.isTray then 0 else s.tray.edges } }
      else s
    | [] => s)

/-- REVERSE_FRAME_END (R42): the frame has been sent to its last byte and the transmitter is free to choose. -/
def execReverseFrameEnd (s : State) : Effect :=
  .next { s with link := { s.link with sending := none } }

end Sys2Proof.Machine
end

