-- ==== Sys2Proof/Machine/Commands.lean ====
section
/-! DEFINITION. The COMMAND frames (spec/10 R179 to R182, R189, R192): one meaning for each, every form of its
body and every play state, each answered once. -/

namespace Sys2Proof.Machine

/-- A COMMAND frame taken (R179, R180): refused with HALTED in HALTED, with INVALID where its form is not one the
command takes, else handled. -/
def State.commanded (s : State) (code : Byte) (wellFormed : Bool) (handled : State) : State :=
  if s.out.play = .halted then s.answer .command code .halted
  else if wellFormed then handled
  else s.answer .command code .invalid

/-- The RESULT DONE of a command that has been carried out (R179). -/
def State.done (s : State) (code : Byte) : State := s.answer .command code .done

/-- PLAY with its parameters read (R115, R180): INVALID for a segment it does not take, TRAY while the tray is not
CLOSED, else started with the address clamped into the segment. -/
def State.playAt (s : State) (segByte : Byte) (address : Option Addr) : State :=
  match segmentOf segByte with
  | none => s.answer .command 0x01#8 .invalid
  | some seg =>
    let e := s.table.entry seg
    if e.valid = false then s.answer .command 0x01#8 .invalid
    else if s.tray.state ≠ .closed then s.answer .command 0x01#8 .tray
    else (s.startAt ⟨seg, max e.first (min e.last (address.getD e.first)), 0⟩ .start).done 0x01#8

/-- PLAY, code 01h (R115). -/
def execPlay (params : List Byte) (s : State) : Effect :=
  .next (match readPlay params with
    | some (seg, address) => s.commanded 0x01#8 true (s.playAt seg address)
    | none => s.commanded 0x01#8 false s)

/-- PAUSE in a play state other than HALTED (R122). -/
def State.pauseNow (s : State) : State :=
  match s.out.play with
  | .playing | .starved => (s.enter .pausing).done 0x02#8
  | .trayHold => s.answer .command 0x02#8 .tray
  | .idle | .priming | .pausing | .paused | .stopping | .halted => s.answer .command 0x02#8 .busy

/-- PAUSE, code 02h (R122). -/
def execPause (params : List Byte) (s : State) : Effect :=
  .next (s.commanded 0x02#8 params.isEmpty s.pauseNow)

/-- The plan's request when RESUME turns the fade of PAUSING round: a FADE that has not faded out and a DROP in
FADING ask for their fade-out again (R150). -/
def State.turnPlan (s : State) : State :=
  match s.out.plan with
  | none => s
  | some p =>
    match p.kind, p.fadeStep with
    | .fade, some step => if p.fadedOut then s else s.fixedFade step
    | .drop, some step => if p.phase = .fading then s.fixedFade step else s
    | _, _ => s

/-- Play going on (R123): the fade turned up, and a cursor that waits tests the block boundary at once. -/
def State.resumePlay (s : State) : State :=
  let t := if s.out.play = .pausing then (s.enter .playing).turnPlan else s.enter .playing
  if t.out.cursor = .waiting then t.boundaryTest else t

/-- The consume a completed fade held back, taken as the first event after the RESUME (R122): the block boundary
of the finished head. -/
def State.takeHeldConsume (s : State) : State := if s.out.cursor = .finished then s.boundary else s

/-- RESUME in a play state other than HALTED (R122, R123). -/
def State.resumeNow (s : State) : State :=
  match s.out.play with
  | .paused | .pausing => (s.resumePlay.done 0x03#8).takeHeldConsume
  | .trayHold => s.answer .command 0x03#8 .tray
  | .idle | .priming | .playing | .starved | .stopping | .halted => s.answer .command 0x03#8 .busy

/-- RESUME, code 03h (R123). -/
def execResume (params : List Byte) (s : State) : Effect :=
  .next (s.commanded 0x03#8 params.isEmpty s.resumeNow)

/-- STOP in a play state other than HALTED (R124). From PRIMING, where g is 0, and from PAUSED it completes at
once. -/
def State.stopNow (s : State) : State :=
  match s.out.play with
  | .playing | .pausing | .starved => (s.enter .stopping).done 0x04#8
  | .priming => (s.enter .stopping).completeStop.done 0x04#8
  | .paused => s.completeStop.done 0x04#8
  | .idle => s.done 0x04#8
  | .stopping => s.answer .command 0x04#8 .busy
  | .trayHold => s.answer .command 0x04#8 .tray
  | .halted => s.answer .command 0x04#8 .halted

/-- STOP, code 04h (R124). -/
def execStop (params : List Byte) (s : State) : Effect :=
  .next (s.commanded 0x04#8 params.isEmpty s.stopNow)

/-- The requested level code set, a code above 63 taken as 63 (R136). -/
def State.setLevel (s : State) (code : Byte) : State :=
  { s with gain := { s.gain with requested := min code.toNat 63 } }

/-- SET_LEVEL, code 05h (R136). -/
def execSetLevel (params : List Byte) (s : State) : Effect :=
  .next (match readOne params with
    | some code => s.commanded 0x05#8 true ((s.setLevel code).done 0x05#8)
    | none => s.commanded 0x05#8 false s)

/-- SET_STOP with its parameter (R110): an index, 255 for NONE, INVALID for any other value. -/
def State.setStop (s : State) (index : Byte) : State :=
  if index = 0xFF#8 then { s with table := { s.table with stopIndex := none } }.done 0x06#8
  else match segmentOf index with
    | some seg => { s with table := { s.table with stopIndex := some seg } }.done 0x06#8
    | none => s.answer .command 0x06#8 .invalid

/-- SET_STOP, code 06h (R110). -/
def execSetStop (params : List Byte) (s : State) : Effect :=
  .next (match readOne params with
    | some index => s.commanded 0x06#8 true (s.setStop index)
    | none => s.commanded 0x06#8 false s)

/-- SET_REPEAT with its parameter (R110): 0 clears and 1 sets, INVALID for any other value. -/
def State.setRepeat (s : State) (value : Byte) : State :=
  if value = 0x00#8 then { s with table := { s.table with repeatFlag := false } }.done 0x07#8
  else if value = 0x01#8 then { s with table := { s.table with repeatFlag := true } }.done 0x07#8
  else s.answer .command 0x07#8 .invalid

/-- SET_REPEAT, code 07h (R110). -/
def execSetRepeat (params : List Byte) (s : State) : Effect :=
  .next (match readOne params with
    | some value => s.commanded 0x07#8 true (s.setRepeat value)
    | none => s.commanded 0x07#8 false s)

/-- CUE in a play state other than HALTED (R110). -/
def State.cueNow (s : State) : State :=
  if s.out.play = .trayHold then s.answer .command 0x08#8 .tray
  else { s with table := { s.table with cueFlag := true } }.done 0x08#8

/-- CUE, code 08h (R110). -/
def execCue (params : List Byte) (s : State) : Effect :=
  .next (s.commanded 0x08#8 params.isEmpty s.cueNow)

/-- IDENTIFY with its fingerprint, in a play state other than HALTED (R174): accepted by tray state, play state
and pending flag, or BUSY. The RESULT says whether the Resume Table held a record. -/
def State.identifyDisc (s : State) (f : Fingerprint) : State :=
  let present := (findRecord s.tray.records f).isSome
  if s.tray.pendingFlag then s.answer .command 0x09#8 .busy
  else if s.tray.state = .awaitId ∧ s.out.play = .trayHold then
    (s.decideResume f).answer .command 0x09#8 .done present
  else if (s.tray.state = .awaitId ∨ s.tray.state = .closed) ∧ s.out.play = .idle then
    { s with tray := { s.tray with fingerprint := some f, state := .closed } }.answer .command 0x09#8 .done present
  else s.answer .command 0x09#8 .busy

/-- IDENTIFY, code 09h (R174). -/
def execIdentify (params : List Byte) (s : State) : Effect :=
  .next (match readFingerprint params with
    | some f => s.commanded 0x09#8 true (s.identifyDisc f)
    | none => s.commanded 0x09#8 false s)

/-- ACK_TRAY in a play state other than HALTED (R164): the pending flag cleared, and under EDGE_AND_LEVEL with the
line low set again with a TRAY report. -/
def State.ackTray (s : State) : State :=
  if s.table.config.sensitivity = .edgeAndLevel ∧ s.tray.line = .low then
    { s with tray := { s.tray with pendingFlag := true } }.postTray.done 0x0A#8
  else { s with tray := { s.tray with pendingFlag := false } }.done 0x0A#8

/-- ACK_TRAY, code 0Ah (R164). -/
def execAckTray (params : List Byte) (s : State) : Effect :=
  .next (s.commanded 0x0A#8 params.isEmpty s.ackTray)

/-- CLEAR_TIMEBASE, code 0Bh (R154). -/
def execClearTimebase (params : List Byte) (s : State) : Effect :=
  .next (s.commanded 0x0B#8 params.isEmpty ({ s with timer := s.timer.clear }.done 0x0B#8))

/-- The sample offset STATUS shows: the cursor's while it has a head, the start offset while it waits, 0 when the
cursor is none (R182). A finished block shows its last offset (log 12). -/
def State.shownOffset (s : State) : Nat :=
  match s.out.cursor with
  | .head off => off
  | .finished => Config.pairsPerBlock - 1
  | .waiting | .next => s.out.startOffset
  | .none => 0

/-- The fields of a STATUS reply, formed now (R24, R182). -/
def State.statusReply (s : State) : StatusReply where
  play := s.out.play
  fill := s.fill.state
  tray := s.tray.state
  headAddress := (s.store.slots.head?.map Slot.address).getD 0
  offset := s.shownOffset
  count := s.store.count
  depth := s.store.depth
  faults := s.faults.length
  retry := s.fill.retry
  abandon := s.fill.abandon
  level := s.gain.applied
  fingerprint := s.tray.fingerprint
  noisy := s.link.noisy

/-- A QUERY of STATUS: the report, and the noisy-vote count read and set to 0 in the same step (R38, R182). -/
def State.queryStatus (s : State) : State :=
  { s with link := { s.link with noisy := 0 } }.post (.status s.statusReply)

/-- The held record of a table as QUERY returns it: the bytes and whether one is present, or `none` for an index
beyond the table (R181). -/
def State.heldRecord (s : State) (format index : Byte) : Option (Option (List Byte)) :=
  match format.toNat with
  | 0x11 => (segmentOf index).map (fun i => some ((s.table.entry i).bytes index))
  | 0x12 => (profileIndexOf index).map (fun i => some (s.table.profiles[i].bytes index))
  | 0x13 => some (some s.table.config.bytes)
  | _ =>
    if index.toNat < Config.resumeCapacity then some (s.tray.records[index.toNat]?.map ResumeRecord.bytes)
    else none

/-- A QUERY taken (R180, R181), in every play state: one or two parameter bytes; selector 00h alone, a table
selector with its index, FORMAT for any other selector. -/
def State.query (s : State) (params : List Byte) : State :=
  match params with
  | [selector] =>
    if selector = 0x00#8 then s.queryStatus
    else if knownFormat selector then s.answer .command 0x0C#8 .invalid
    else s.answer .command 0x0C#8 .format
  | [selector, index] =>
    if selector = 0x00#8 then s.answer .command 0x0C#8 .invalid
    else if knownFormat selector then
      match s.heldRecord selector index with
      | some record => s.post (.tableReply selector index record)
      | none => s.answer .command 0x0C#8 .invalid
    else s.answer .command 0x0C#8 .format
  | _ => s.answer .command 0x0C#8 .invalid

/-- QUERY with selector 00h, code 0Ch (R181, R182); `rest` are the bytes after the selector. -/
def execQueryStatus (rest : List Byte) (s : State) : Effect :=
  .next (s.query (0x00#8 :: rest))

/-- QUERY with any other selector, or none, code 0Ch (R181). -/
def execQueryTable (params : List Byte) (s : State) : Effect :=
  .next (s.query params)

/-- The tray state a reset takes from the line (R178). -/
def resetTrayState : TrayLine → TrayState
  | .low => .opened
  | .high => .closed

/-- A soft reset of the whole part: each block's soft reset values (R25, R43, R61, R92, R108, R130, R133, R161,
R178, R189). -/
def State.resetSoft (s : State) : State :=
  { s with
    link := { s.link with seek := none, pause := false }
    track := ⟨0, 0, 0⟩
    store := s.store.flush s.table.config
    faults := []
    fill := { s.fill with
      state := .stopped, outstanding := none, active := none, retry := 0, abandon := 0, owed := none }
    timer := { s.timer with
      watchdog := 0, armed := false, expiryDue := false, settleDue := false, positionDue := false }
    out := { s.out with
      play := .idle, cursor := .none, startOffset := 0, buffer := [], cursorSegment := none, plan := none,
      afterCut := false, lastPlayed := 0 }
    gain := { s.gain with
      fade := 0, target := 0, step := (s.table.profiles[(0 : Fin 4)]).fadeStep, source := .currentProfile,
      lastPair := Pair.zero }
    tray := { s.tray with
      state := resetTrayState s.tray.line, pendingFlag := false, edges := 0, saved := none
      fingerprint := if s.tray.line = .low then none else s.tray.fingerprint }
    table := { s.table with cueFlag := false }
    reports := [] }

/-- RESET, code 0Dh (R189), taken in every play state. -/
def execSoftReset (params : List Byte) (s : State) : Effect :=
  .next (if params.isEmpty then s.resetSoft.done 0x0D#8 else s.answer .command 0x0D#8 .invalid)

/-- A COMMAND with an empty body or a code outside the thirteen (R179, R180); the RESULT carries the code, 00h for
an empty body. A body with a known code is not this row's (log 6). -/
def execUnknownCommandCode (body : List Byte) (s : State) : Effect :=
  .next (if (body.head?.map knownCode).getD false then s
    else s.commanded (body.headD 0x00#8) false s)

/-- HARD_RESET (R25, R43, R61, R92, R108, R130, R133, R161, R178): every block at its hard reset values, the tray
state from the line; the DRAM keeps its bytes (R3), and the commands that wait go on waiting. -/
def execHardReset (line : TrayLine) (s : State) : Effect :=
  .next { State.reset with
    tray := { State.reset.tray with line := line, state := resetTrayState line }
    store := { State.reset.store with dram := s.store.dram }
    pending := s.pending }

end Sys2Proof.Machine
end

