-- ==== Sys2Proof/Machine/Loads.lean ====
section
/-! DEFINITION. The TABLE frames (spec/10 R183 to R188, R192): one meaning for each load, its checks in the order
format, fields, state, and its effects at the acceptance. -/

namespace Sys2Proof.Machine

/-- A TABLE frame taken (R179, R183): refused with HALTED in HALTED, with FORMAT where its length is wrong, else
handled. -/
def State.loaded (s : State) (format : Byte) (rightLength : Bool) (handled : State) : State :=
  if s.out.play = .halted then s.answer .table format .halted
  else if rightLength then handled
  else s.answer .table format .format

/-- A segment in use: a held slot belongs to it, or it is the fill segment of a fill that is not STOPPED
(R184). -/
def State.inUse (s : State) (seg : SegmentIndex) : Bool :=
  s.store.slots.any (fun x => x.segment == seg) || (s.track.segment == seg && s.fill.state != .stopped)

/-- One play list entry replaced (R109). -/
def Tables.setEntry (t : Tables) (i : SegmentIndex) (e : PlayEntry) : Tables :=
  { t with playList := t.playList.set i e }

/-- SEGMENT_LOAD, format 11h (R184). -/
def execSegmentLoad (record : List Byte) (s : State) : Effect :=
  .next (match readSegment record with
    | none => s.loaded 0x11#8 false s
    | some r => s.loaded 0x11#8 true
      (match r.entry with
        | none => s.answer .table 0x11#8 .invalid
        | some (i, e) =>
          if s.inUse i then s.answer .table 0x11#8 .inUse
          else { s with table := s.table.setEntry i e }.answer .table 0x11#8 .done))

/-- One profile replaced (R131). -/
def Tables.setProfile (t : Tables) (i : ProfileIndex) (p : Profile) : Tables :=
  { t with profiles := t.profiles.set i p }

/-- A profile load taken (R132): where it changes the fade code of the current profile, a running fade that follows
that profile takes its new step. -/
def State.loadProfile (s : State) (i : ProfileIndex) (p : Profile) : State :=
  let t := { s with table := s.table.setProfile i p }
  if t.currentProfile.fadeCode ≠ s.currentProfile.fadeCode ∧ s.gain.fade ≠ s.gain.target then t.refreshStep else t

/-- PROFILE_LOAD, format 12h (R185): the profile written with its effect on a running fade (R132), a REPAIR
evaluation made (R69). -/
def execProfileLoad (record : List Byte) (s : State) : Effect :=
  .next (match readProfile record with
    | none => s.loaded 0x12#8 false s
    | some (index, p) => s.loaded 0x12#8 true
      (match profileIndexOf index with
        | none => s.answer .table 0x12#8 .invalid
        | some i =>
          (s.loadProfile i p).evaluateRepair.answer .table 0x12#8 .done))

/-- The configuration record replaced (R90, R188): a retry count above the new limit is set to it, and depth and
marks are formed at once with an empty store, the head at slot 0, and wait for the flush otherwise (R19). -/
def State.configure (s : State) (c : ConfigRecord) : State :=
  { s with
    table := { s.table with config := c }
    fill := { s.fill with retry := min s.fill.retry c.retryLimit }
    store := if s.store.count = 0 then { s.store with head := 0 }.form c.depth c
      else { s.store with pendingDepth := some c.depth } }

/-- CONFIG_LOAD, format 13h (R188). -/
def execConfigLoad (record : List Byte) (s : State) : Effect :=
  .next (match readConfig record with
    | none => s.loaded 0x13#8 false s
    | some c => s.loaded 0x13#8 true
      (if s.out.play = .idle ∨ s.out.play = .trayHold then (s.configure c).answer .table 0x13#8 .done
        else s.answer .table 0x13#8 .busy))

/-- RESUME_LOAD, format 14h (R186). -/
def execResumeLoad (record : List Byte) (s : State) : Effect :=
  .next (match readResume record with
    | none => s.loaded 0x14#8 false s
    | some r => s.loaded 0x14#8 true
      (match r.record with
        | none => s.answer .table 0x14#8 .invalid
        | some x =>
          { s with tray := { s.tray with records := insertRecord s.tray.records x } }.answer .table 0x14#8 .done))

/-- A TABLE frame with an empty body or an unknown format byte (R179, R183); the RESULT carries the format byte,
00h for an empty body. A body with a known format is not this row's (log 6). -/
def execUnknownTableFormat (body : List Byte) (s : State) : Effect :=
  .next (if (body.head?.map knownFormat).getD false then s
    else s.loaded (body.headD 0x00#8) false s)

end Sys2Proof.Machine
end

