-- ==== Sys2Proof/Machine/Events.lean ====
section
/-! DEFINITION. The meanings of the rows that are edges of the tray line, ticks of the clock and events the blocks
make; each event acts when it is due and has no effect otherwise (log 1). -/

namespace Sys2Proof.Machine

/-- OPEN_EDGE (R162, R166, R167). -/
def execOpenEdge (s : State) : Effect := .next s.takeOpenEdge

/-- CLOSE_EDGE (R162, R167). -/
def execCloseEdge (s : State) : Effect := .next s.takeCloseEdge

/-- SAMPLE_PERIOD (R113, R134): what the DRAM lost is lost, whatever is due is taken (log 2), then one pair is
handed on and sent. -/
def execSamplePeriod (upset : List (Nat × Byte)) (s : State) : Effect := .next (s.upset upset).takeDue.period

/-- BLOCK_PERIOD_END (R136, R153). -/
def execBlockPeriodEnd (s : State) : Effect := .next s.takePeriodEnd

/-- WATCHDOG_EXPIRY (R79, R156). -/
def execWatchdogExpiry (s : State) : Effect := .next s.takeExpiry

/-- SETTLE_END (R159, R167). -/
def execSettleEnd (s : State) : Effect := .next s.takeSettleEnd

/-- PERIODIC_POSITION (R127). -/
def execPeriodicPosition (s : State) : Effect := .next s.takePeriodicPosition

/-- STOP_COMPLETION (R124, R170). -/
def execStopCompletion (s : State) : Effect := .next s.takeStopCompletion

/-- PAUSED_ENTRY (R122). -/
def execPausedEntry (s : State) : Effect := .next s.takePausedEntry

/-- SAVE_STEP (R168). -/
def execSaveStep (s : State) : Effect := .next s.takeSaveStep

/-- DROPPED (R147, R148); the follower is read, so what the DRAM lost is lost first. -/
def execDropped (upset : List (Nat × Byte)) (s : State) : Effect := .next (s.upset upset).takeDropped

/-- START_TEST_PASS (R116). -/
def execStartTestPass (s : State) : Effect := .next s.takeStartTest

/-- STARVED_RECOVERY (R120). -/
def execStarvedRecovery (s : State) : Effect := .next s.takeStarvedRecovery

/-- REFILL (R86). -/
def execRefill (s : State) : Effect := .next s.takeRefill

/-- PLACEHOLDER_RUN (R82, R83). -/
def execPlaceholderRun (s : State) : Effect := .next s.takePlaceholderRun

end Sys2Proof.Machine
end

