-- ==== Sys2Proof/Machine/Dispatch.lean ====
section
/-! DEFINITION. The effect of each command: one arm for each constructor of `Instr`. -/

namespace Sys2Proof.Machine

def exec (i : Instr) (s : State) : Host.Outcome State Fault Refusal :=
  match i with
  | .hardReset line => Sys2Proof.Machine.execHardReset line s
  | .refusedForwardUnit unit => Sys2Proof.Machine.execRefusedForwardUnit unit s
  | .sector frame => Sys2Proof.Machine.execSector frame s
  | .seekDone tag status => Sys2Proof.Machine.execSeekDone tag status s
  | .play params => Sys2Proof.Machine.execPlay params s
  | .pause params => Sys2Proof.Machine.execPause params s
  | .resume params => Sys2Proof.Machine.execResume params s
  | .stop params => Sys2Proof.Machine.execStop params s
  | .setLevel params => Sys2Proof.Machine.execSetLevel params s
  | .setStop params => Sys2Proof.Machine.execSetStop params s
  | .setRepeat params => Sys2Proof.Machine.execSetRepeat params s
  | .cue params => Sys2Proof.Machine.execCue params s
  | .identify params => Sys2Proof.Machine.execIdentify params s
  | .ackTray params => Sys2Proof.Machine.execAckTray params s
  | .clearTimebase params => Sys2Proof.Machine.execClearTimebase params s
  | .queryStatus rest => Sys2Proof.Machine.execQueryStatus rest s
  | .queryTable params => Sys2Proof.Machine.execQueryTable params s
  | .softReset params => Sys2Proof.Machine.execSoftReset params s
  | .segmentLoad record => Sys2Proof.Machine.execSegmentLoad record s
  | .profileLoad record => Sys2Proof.Machine.execProfileLoad record s
  | .configLoad record => Sys2Proof.Machine.execConfigLoad record s
  | .resumeLoad record => Sys2Proof.Machine.execResumeLoad record s
  | .openEdge => Sys2Proof.Machine.execOpenEdge s
  | .closeEdge => Sys2Proof.Machine.execCloseEdge s
  | .samplePeriod upset => Sys2Proof.Machine.execSamplePeriod upset s
  | .blockPeriodEnd => Sys2Proof.Machine.execBlockPeriodEnd s
  | .watchdogExpiry => Sys2Proof.Machine.execWatchdogExpiry s
  | .settleEnd => Sys2Proof.Machine.execSettleEnd s
  | .periodicPosition => Sys2Proof.Machine.execPeriodicPosition s
  | .stopCompletion => Sys2Proof.Machine.execStopCompletion s
  | .pausedEntry => Sys2Proof.Machine.execPausedEntry s
  | .saveStep => Sys2Proof.Machine.execSaveStep s
  | .dropped upset => Sys2Proof.Machine.execDropped upset s
  | .startTestPass => Sys2Proof.Machine.execStartTestPass s
  | .starvedRecovery => Sys2Proof.Machine.execStarvedRecovery s
  | .refill => Sys2Proof.Machine.execRefill s
  | .placeholderRun => Sys2Proof.Machine.execPlaceholderRun s
  | .seekSend => Sys2Proof.Machine.execSeekSend s
  | .readPauseSend => Sys2Proof.Machine.execReadPauseSend s
  | .reportSend => Sys2Proof.Machine.execReportSend s
  | .reverseFrameEnd => Sys2Proof.Machine.execReverseFrameEnd s
  | .unknownCommandCode body => Sys2Proof.Machine.execUnknownCommandCode body s
  | .unknownTableFormat body => Sys2Proof.Machine.execUnknownTableFormat body s

end Sys2Proof.Machine
end

