-- ==== Sys2Proof/Safety.lean ====
section
/-! DEFINITION. What a safe run of the block keeps: the laws the spec states for its state, one for each part of
it. A safe step starts in a state where all hold and ends in one. No step stops: `Fault` has no constructor and no
row is refused. -/

/-- The commands whose operands say that the DRAM lost nothing (log 10). -/
def Sys2Proof.Instr.keepsDram : Sys2Proof.Instr → Bool
  | .samplePeriod upset | .dropped upset => upset.isEmpty
  | _ => true

namespace Sys2Proof.Machine

/-- The offset of a cursor that has a head, 0 of any other. -/
def Cursor.offset : Cursor → Nat
  | .head off => off
  | .finished => 479
  | .none | .waiting | .next => 0

/-- The Block Store: the depth in force (R4), C within D and the head within the ring (R5), the marks in force
(R18), no address twice (R7), a check word but for MISSING slots (R1), and the payload memory in its one form
(R3, log 9). -/
abbrev StoreLaw (s : State) : Prop :=
  (256 ≤ s.store.depth ∧ s.store.depth ≤ 2048 ∧ s.store.depth % 256 = 0)
  ∧ s.store.count ≤ s.store.depth ∧ s.store.head < s.store.depth
  ∧ (s.store.refill < s.store.highWater ∧ s.store.highWater + 8 ≤ s.store.depth
      ∧ 1 ≤ s.store.start ∧ s.store.start ≤ s.store.highWater)
  ∧ s.store.slots.Pairwise (fun x y => x.address ≠ y.address)
  ∧ (∀ x ∈ s.store.slots, (x.check = none ↔ x.quality = .missing))
  ∧ Memory.wf s.store.dram

/-- Every payload area a held slot owns reads back with the slot's check word (R22, R23), as long as the DRAM
keeps its bytes (log 10). -/
abbrev PayloadLaw (s : State) : Prop :=
  ∀ x ∈ s.store.slots.zipIdx, ∀ c ∈ x.1.check,
    crc16 (Memory.readArea s.store.dram (s.store.physical x.2)) = c

/-- The held slot at a position that a Fault List entry names (R93). -/
abbrev FaultEntry.names (e : FaultEntry) (s : State) (x : Slot × Nat) : Prop :=
  s.store.physical x.2 = e.slot ∧ x.1.address = e.address ∧ x.1.segment = e.segment

/-- The Fault List: at most 32 entries in play order, each naming a held DAMAGED slot (R94), listed set exactly
where an entry names the slot (R93), attempts at most 3 (R100). -/
abbrev FaultLaw (s : State) : Prop :=
  s.faults.length ≤ Config.faultCapacity
  ∧ s.faults.Pairwise (fun x y => s.store.distance x.slot < s.store.distance y.slot)
  ∧ (∀ e ∈ s.faults, e.attempts ≤ 3 ∧
      ∃ x ∈ s.store.slots.zipIdx, e.names s x ∧ x.1.quality = .damaged ∧ x.1.listed = true)
  ∧ (∀ x ∈ s.store.slots.zipIdx, x.1.listed = true → ∃ e ∈ s.faults, e.slot = s.store.physical x.2)

/-- A slot that ends its segment's visit (R6). -/
abbrev Slot.endsVisit (t : Tables) (x : Slot) : Prop :=
  x.address = (t.entry x.segment).last ∨ x.cutAfter = true

/-- The block at an address of a segment may stand behind a slot (R6). -/
abbrev Slot.leadsTo (t : Tables) (x : Slot) (segment : SegmentIndex) (address : Addr) : Prop :=
  (x.endsVisit t ∧ address = (t.entry segment).first)
  ∨ (¬ x.endsVisit t ∧ segment = x.segment ∧ address = x.address + 1)

/-- The fill states in which blocks are still to be put at E. -/
def FillState.filling : FillState → Bool
  | .seeking | .relocking | .tracking | .pausedFull | .abandonWait => true
  | .stopped | .ended | .halted => false

/-- Play order (R6): adjacent slots follow on, each slot lies within its segment, and while the fill goes on the
block at E is the one that follows the tail; an owed run does not pass the segment end (R81). -/
abbrev OrderLaw (s : State) : Prop :=
  (∀ x ∈ s.store.slots.zip s.store.slots.tail, x.1.leadsTo s.table x.2.segment x.2.address)
  ∧ (∀ x ∈ s.store.slots, (s.table.entry x.segment).first ≤ x.address
      ∧ x.address ≤ (s.table.entry x.segment).last)
  ∧ (s.fill.state.filling = true →
      (s.table.entry s.track.segment).first ≤ s.track.expected
      ∧ s.track.expected ≤ (s.table.entry s.track.segment).last
      ∧ ∀ x ∈ s.store.slots.getLast?, x.leadsTo s.table s.track.segment s.track.expected)
  ∧ (∀ r ∈ s.fill.owed, r.first = s.track.expected ∧ 1 ≤ r.length
      ∧ r.first + r.length ≤ (s.table.entry s.track.segment).last + 1)
  ∧ s.track.expected < Config.addressCount

/-- The recovery context and the watchdog: armed exactly while a recovery is in progress (R62, R155), the counter
within 0 to 3 and 0 while disarmed (R155), the outstanding tag that of the counter and present in SEEKING alone
(R63, R64), the cause fields present and the retry count above 0 only in a recovery, but in HALTED (R63, R89), an
owed run in ABANDON_WAIT alone (R63), and the fill HALTED with the play state (R89). -/
abbrev FillLaw (s : State) : Prop :=
  s.timer.armed = s.fill.state.recovering
  ∧ s.timer.watchdog ≤ 3 ∧ (s.timer.armed = false → s.timer.watchdog = 0)
  ∧ s.fill.outstanding = (if s.fill.state = .seeking then some s.fill.tag else none)
  ∧ (s.fill.state ≠ .halted → s.fill.active.isSome = s.fill.state.recovering)
  ∧ (∀ a ∈ s.fill.active, (a.fault.isSome = true ↔ a.reason = .repair))
  ∧ (s.fill.state ≠ .halted → s.fill.state.recovering = false → s.fill.retry = 0)
  ∧ s.fill.retry ≤ s.table.config.retryLimit
  ∧ (s.fill.owed.isSome = true ↔ s.fill.state = .abandonWait)
  ∧ s.fill.abandon ≤ 8 ∧ (s.fill.state.filling = true → s.fill.abandon ≤ 7)
  ∧ s.track.run ≤ 255
  ∧ (s.out.play = .halted ↔ s.fill.state = .halted)

/-- The Gain Unit: g and its target within 0 to 32,768 (R133, R138), both level codes within 0 to 63 (R136), the
step of a fade (R133), the target 0 outside PLAYING (R111), g at 0 in the silent play states (R113). -/
abbrev GainLaw (s : State) : Prop :=
  s.gain.fade ≤ Config.unity ∧ (s.gain.target = 0 ∨ s.gain.target = Config.unity)
  ∧ s.gain.applied ≤ 63 ∧ s.gain.requested ≤ 63
  ∧ (8 ≤ s.gain.step ∧ s.gain.step ≤ 512)
  ∧ (s.out.play ≠ .playing → s.gain.target = 0)
  ∧ ((s.out.play = .idle ∨ s.out.play = .priming ∨ s.out.play = .paused ∨ s.out.play = .halted
      ∨ (s.out.play = .trayHold ∧ s.tray.state ≠ .fading)) → s.gain.fade = 0)

/-- A HALTED report. -/
def Report.isHalted : Report → Bool
  | .halted .. => true
  | _ => false

/-- The Report Queue: at most 16 entries and at most one TRAY entry (R190), at most one HALTED entry, and that
only in HALTED (R191). -/
abbrev ReportLaw (s : State) : Prop :=
  s.reports.length ≤ Config.reportCapacity
  ∧ s.reports.countP (fun e => e.report.isTray) ≤ 1
  ∧ s.reports.countP (fun e => e.report.isHalted) ≤ 1
  ∧ (s.reports.any (fun e => e.report.isHalted) = true → s.out.play = .halted)

/-- The tables: every entry's end at or above its start (R109), the profiles and the clamped fields of the
configuration record within their ranges (R131, R187). -/
abbrev TableLaw (s : State) : Prop :=
  (∀ e ∈ s.table.playList.toList, e.first ≤ e.last ∧ e.last < Config.addressCount)
  ∧ (∀ p ∈ s.table.profiles.toList, p.rampLimit ≤ 8 ∧ p.fadeCode ≤ 6 ∧ 16 ≤ p.repairLead ∧ p.repairLead ≤ 255)
  ∧ (1 ≤ s.table.config.window ∧ s.table.config.window ≤ 255) ∧ s.table.config.runIn ≤ 63
  ∧ (1 ≤ s.table.config.retryLimit ∧ s.table.config.retryLimit ≤ 15)
  ∧ (1 ≤ s.table.config.skipAhead ∧ s.table.config.skipAhead ≤ 255)
  ∧ (1 ≤ s.table.config.abandonLimit ∧ s.table.config.abandonLimit ≤ 7)
  ∧ (1 ≤ s.table.config.attemptLimit ∧ s.table.config.attemptLimit ≤ 3)
  ∧ s.table.config.watchdogCode ≤ 3 ∧ s.table.config.settle ≤ 255 ∧ s.table.config.mask ≤ 7

/-- The Resume Table: at most 8 records, no two with the same fingerprint, every field in its range (R172). -/
abbrev ResumeLaw (s : State) : Prop :=
  s.tray.records.length ≤ Config.resumeCapacity
  ∧ s.tray.records.Pairwise (fun x y => x.fingerprint ≠ y.fingerprint)
  ∧ ∀ r ∈ s.tray.records, r.level ≤ 63 ∧ r.position.offset < Config.pairsPerBlock
      ∧ r.position.address < Config.addressCount

/-- The Tray Unit: the line of each tray state (R165), FADING only in a tray fade or a stop fade (R166), the hold
after the save step with the store empty, the fill STOPPED and the saved position kept (R125, R168), a fingerprint
only in CLOSED or FADING (R171), the edge count within a byte (R162). -/
abbrev TrayLaw (s : State) : Prop :=
  (s.tray.state = .closed ∨ s.tray.state = .settling ∨ s.tray.state = .awaitId → s.tray.line = .high)
  ∧ (s.tray.state = .opened → s.tray.line = .low)
  ∧ (s.tray.state = .fading → s.out.play = .trayHold ∨ s.out.play = .stopping)
  ∧ (s.out.play = .trayHold → s.tray.state ≠ .closed)
  ∧ (s.out.play = .trayHold ∧ s.tray.state ≠ .fading →
      s.store.slots = [] ∧ s.fill.state = .stopped ∧ s.out.cursor = .none)
  ∧ (s.tray.saved.isSome = true ↔ s.out.play = .trayHold ∧ s.tray.state ≠ .fading)
  ∧ (s.tray.fingerprint.isSome = true → s.tray.state = .closed ∨ s.tray.state = .fading)
  ∧ s.tray.edges ≤ 255

/-- The Output Sequencer: start offset and cursor offset in range (R112), a consume held back only at g = 0 in a
state that has faded out or is about to complete (R122, log 12), a cursor with a head only over a held
slot, an empty or a full block buffer (R112), the cursor of the play states that have none or wait (R111), a plan
whose slots are all held and whose fade step, where it has one, is 32,768 over a fade length (R134, R141, R145), and the
sample periods counted toward a block period (R113). -/
abbrev OutputLaw (s : State) : Prop :=
  s.out.startOffset < Config.pairsPerBlock ∧ s.out.samples ≤ Config.pairsPerBlock
  ∧ (s.out.buffer = [] ∨ s.out.buffer.length = Config.pairsPerBlock)
  ∧ s.out.cursor.offset < Config.pairsPerBlock
  ∧ (s.out.cursor = .finished → s.gain.fade = 0 ∧ (s.out.play = .paused ∨ s.out.play = .pausing
      ∨ s.out.play = .stopping ∨ (s.out.play = .trayHold ∧ s.tray.state = .fading)))
  ∧ (s.out.play ≠ .halted → s.out.cursor ≠ .waiting → s.out.cursor ≠ .none → s.store.slots ≠ [])
  ∧ (s.out.play = .idle → s.out.cursor = .none)
  ∧ (s.out.play = .priming ∨ s.out.play = .starved → s.out.cursor = .waiting ∧ s.out.plan = none)
  ∧ (∀ p ∈ s.out.plan, s.out.play ≠ .halted →
      1 ≤ p.left ∧ p.left ≤ p.runLength ∧ p.left ≤ s.store.count ∧ p.firstOffset < Config.pairsPerBlock)
  ∧ (∀ p ∈ s.out.plan, ∀ step ∈ p.fadeStep, 8 ≤ step ∧ step ≤ 512)

/-- All the laws. -/
abbrev Lawful (s : State) : Prop :=
  StoreLaw s ∧ FaultLaw s ∧ OrderLaw s ∧ FillLaw s ∧ GainLaw s ∧ ReportLaw s ∧ TableLaw s ∧ ResumeLaw s
  ∧ TrayLaw s ∧ OutputLaw s

/-! ### Words the statements use -/

/-- Nothing that the block does by itself is due: no block period end, no carry or settle end, no completion of a
fade, no DROP to be taken, no REFILL, no owed run, no start test (log 1, 2). -/
abbrev State.nothingDue (s : State) : Prop :=
  s.out.samples < Config.pairsPerBlock
  ∧ s.timer.expiryDue = false ∧ s.timer.settleDue = false ∧ s.timer.positionDue = false
  ∧ s.dropDue = false ∧ s.completionDue = false ∧ s.refillTest = false
  ∧ (s.fill.state = .abandonWait → ∀ r ∈ s.fill.owed, s.store.admitsRun r.first r.length = false)
  ∧ (s.out.play = .priming → s.startTest = false)
  ∧ (s.out.play = .starved → s.gain.fade = 0 → s.startTest = false)

/-- The gain under a state fade toward a target: the step of the current profile, 32,768 / (64 × 2^code)
(R114, R134, R135). -/
def State.fadingTo (s : State) (target : Nat) : Gain :=
  { s.gain with
    target := target, step := 32768 / (64 * 2 ^ s.currentProfile.fadeCode), source := .currentProfile }

/-- The state in which a play state has been entered with its state fade and nothing else has moved (R111, R135). -/
def State.fadedInto (s : State) (p : PlayState) (target : Nat) : State :=
  { s with out := { s.out with play := p }, gain := s.fadingTo target }

/-- The tray as FADING is left without a save step: by the line, the fingerprint none (R170). -/
def Tray.leftFading (tr : Tray) : Tray :=
  match tr.state, tr.line with
  | .fading, .low => { tr with state := .opened, fingerprint := none }
  | .fading, .high => { tr with state := .settling, fingerprint := none }
  | _, _ => tr

/-- The state after a STOP completion (R124, R16, R88, R170). -/
def State.stopped (s : State) : State :=
  { s with
    out := { s.out with
      play := .idle, cursor := .none, startOffset := 0, buffer := [], plan := none, afterCut := false }
    gain := s.fadingTo 0
    store := s.store.flush s.table.config
    faults := []
    track := { s.track with run := 0 }
    fill := { s.fill with
      state := .stopped, outstanding := none, active := none, retry := 0, abandon := 0, owed := none }
    timer := { s.timer with watchdog := 0, armed := false }
    link := { s.link with seek := none, pause := true }
    tray := s.tray.leftFading }

/-- The state after a save step at a position (R168, R16, R88, R125). -/
def State.savedAt (s : State) (pos : Position) : State :=
  { s with
    out := { s.out with cursor := .none, startOffset := 0, buffer := [], plan := none, afterCut := false }
    store := s.store.flush s.table.config
    faults := []
    track := { s.track with run := 0 }
    fill := { s.fill with
      state := .stopped, outstanding := none, active := none, retry := 0, abandon := 0, owed := none }
    timer := { s.timer with watchdog := 0, armed := false }
    link := { s.link with seek := none, pause := true }
    tray := { s.tray with
      records := match s.tray.fingerprint with
        | some f => insertRecord s.tray.records ⟨f, s.table.signature, pos, s.gain.applied, s.table.repeatFlag⟩
        | none => s.tray.records
      fingerprint := none
      state := match s.tray.line with
        | .low => .opened
        | .high => .settling
      saved := some pos } }

/-- The state in which a fill has been started afresh at a position for a reason (R68, R70, R115, R176). -/
def State.startedAt (s : State) (pos : Position) (reason : Reason) : State :=
  let target := pos.address - min s.table.config.runIn s.table.config.window
  { s with
    out := { s.out with
      play := .priming, cursor := .waiting, startOffset := pos.offset, buffer := [], cursorSegment := none
      plan := none, afterCut := false }
    gain := { s.gain with fade := 0, target := 0 }
    store := s.store.flush s.table.config
    faults := []
    track := ⟨pos.address, pos.segment, 0⟩
    fill := ⟨.seeking, s.fill.tag + 1, some (s.fill.tag + 1), some ⟨reason, none, target⟩, 0, 0, none⟩
    timer := { s.timer with watchdog := 0, armed := true }
    link := { s.link with seek := some ⟨s.fill.tag + 1, target, reason⟩, pause := false } }

/-- The Fault List admission of a block appended at E, as an answer yes or no (R95). -/
def State.admits (s : State) (q : Quality) : Bool :=
  q == .damaged && decide (s.faults.length < 32)
  && (s.table.profileOf s.track.segment).repairEnable
  && decide ((s.table.profileOf s.track.segment).repairLead ≤ s.store.slots.length)

/-- The state in which the block at E has been appended and its fault admitted, E not yet moved: the record, the
payload and its check word, the Fault List entry and the consecutive-append count, whose 256th append clears the
abandon count (R8, R22, R95, R47, R57). -/
def State.appended (s : State) (q : Quality) (payload : List Byte) : State :=
  let slot := (s.store.head + s.store.slots.length) % s.store.depth
  { s with
    store := { s.store with
      slots := s.store.slots
        ++ [⟨s.track.expected, s.track.segment, q, false, some (crc16 payload), s.admits q⟩]
      dram := Memory.write s.store.dram (1920 * slot) payload }
    faults := if s.admits q = true then s.faults ++ [⟨slot, s.track.expected, s.track.segment, 0⟩] else s.faults
    track := { s.track with run := if s.track.run < 255 then s.track.run + 1 else 0 }
    fill := { s.fill with abandon := if s.track.run < 255 then s.fill.abandon else 0 } }

/-- The state in which the vote of a SECTOR frame has been counted (R36, R38). -/
def State.heard (s : State) (f : SectorFrame) : State :=
  { s with link := { s.link with
      noisy :=
        if (f.copyA = f.copyB ∨ f.copyA = f.copyC ∨ f.copyB = f.copyC) ∧ ¬ (f.copyA = f.copyB ∧ f.copyB = f.copyC)
        then min (s.link.noisy + 1) 65535 else s.link.noisy } }

/-- The state in which a seek has been issued: target, tag, context, watchdog, fill state and SEEK request
(R64, R70, R40). -/
def State.seekIssued (s : State) (reason : Reason) (fault : Option FaultRef) (retry : Nat) : State :=
  let runIn := min s.table.config.runIn s.table.config.window
  let target := match fault with
    | some f => max (f.address - runIn) s.table.playList[f.segment].first
    | none => s.track.expected - runIn
  let tag := s.fill.tag + 1
  { s with
    fill := ⟨.seeking, tag, some tag, some ⟨reason, fault, target⟩, retry, s.fill.abandon, none⟩
    timer := { s.timer with watchdog := 0, armed := true }
    link := { s.link with seek := some ⟨tag, target, reason⟩, pause := false } }

/-- The state with the fill in a state outside a recovery: the watchdog disarmed, the retry count 0, the cause
fields cleared, no seek outstanding and no run owed (R62, R63). -/
def State.outOfRecovery (s : State) (f : FillState) : State :=
  { s with
    fill := ⟨f, s.fill.tag, none, none, 0, s.fill.abandon, none⟩
    timer := { s.timer with watchdog := 0, armed := false } }

/-- The state in which a READ_PAUSE has been requested (R41). -/
def State.pauseAsked (s : State) : State := { s with link := { s.link with seek := none, pause := true } }

/-- The slots of a placeholder run of `k` addresses (R10). -/
def missingRun (first k : Nat) (segment : SegmentIndex) : List Slot :=
  (List.range k).map (fun i => ⟨first + i, segment, .missing, false, none, false⟩)

/-- The state in which a crossing has moved the fill to segment `n` (R53, R54). -/
def State.crossedTo (s : State) (n : SegmentIndex) (usesCue : Bool) : State :=
  { s with
    track := ⟨s.table.playList[n].first, n, s.track.run⟩
    fill := { s.fill with abandon := 0 }
    table := { s.table with cueFlag := if usesCue then false else s.table.cueFlag } }

/-- The state in which the head slot has been consumed (R12, R105, R112). -/
def State.consumedHead (s : State) (x : Slot) (rest : List Slot) : State :=
  { s with
    faults := if x.listed then s.faults.filter (fun e => e.slot ≠ s.store.head) else s.faults
    store := { s.store with slots := rest, head := (s.store.head + 1) % s.store.depth }
    out := { s.out with startOffset := 0, buffer := [], afterCut := x.cutAfter, lastPlayed := x.address } }

/-- The state in which the cursor segment is that of a slot which has become the head at an offset: a change takes
the step of a fade that follows the current profile again and, but in the mode OFF, creates a POSITION report
(R114, R117, R126). -/
def State.segmentEntered (s : State) (x : Slot) (offset : Nat) : State :=
  if s.out.cursorSegment = some x.segment then s
  else
    let t := { s with
      out := { s.out with cursorSegment := some x.segment }
      gain := if s.gain.source = StepSource.currentProfile
        then { s.gain with step := 32768 / (64 * 2 ^ (s.table.profileOf x.segment).fadeCode) } else s.gain }
    if s.table.config.positionMode = .off then t
    else t.post (.position .segment ⟨x.segment, x.address, offset⟩ s.out.play)

/-- The state after one sample period's pair: g moved once toward its target, the pair recorded, the output pair
sent and the period counted (R133, R134, R138, R113). -/
def State.sounded (s : State) (pair : Pair) : State :=
  let g := s.gain.fade
  let moved :=
    if g < s.gain.target then min (g + s.gain.step) s.gain.target
    else if s.gain.target < g then max (g - s.gain.step) s.gain.target
    else g
  { s with
    gain := { s.gain with fade := moved, lastPair := pair }
    out := { s.out with
      audio := pair.scale (combinedGain moved (levelGain s.gain.applied)), samples := s.out.samples + 1 } }

/-- The state in which the play state is HALTED after a second failure, without its report (R128, R89, R151,
R170). -/
def State.haltedAsItStands (s : State) : State :=
  { s with
    gain := { s.gain with fade := 0, target := 0 }
    link := { s.link with seek := none, pause := true }
    out := { s.out with play := .halted }
    fill := { s.fill with state := .halted, outstanding := none, owed := none }
    timer := { s.timer with watchdog := 0, armed := false }
    tray := { s.tray.leftFading with saved := none } }

/-- The state after the block boundary test with no plan in force (R118, R119, R121): the next head, or with no
slot held, STARVED or the end of the program in PLAYING and a waiting cursor elsewhere. -/
def State.boundaryTested (s : State) : State :=
  match s.store.slots with
  | _ :: _ => { s with out := { s.out with cursor := .next, plan := none } }
  | [] =>
    if s.out.play ≠ .playing then { s with out := { s.out with cursor := .waiting, plan := none } }
    else if s.fill.state ≠ .ended then
      { s with
        out := { s.out with play := .starved, cursor := .waiting, plan := none }
        gain := s.fadingTo 0 }.post (.starved s.track.segment s.track.expected s.fill.state)
    else
      let seg := s.out.cursorSegment.getD 0
      { s with
        out := { s.out with play := .idle, cursor := .none, buffer := [], plan := none }
        gain := { s.gain with fade := 0, target := 0 }
        fill := { s.fill with state := .stopped } }.post
        (if s.table.stopIndex = some seg then .stopReached seg s.out.lastPlayed
          else .endOfList seg s.out.lastPlayed)

/-- The state after the consume of the head and what follows it (R118, R144 to R146, R149): with no plan the block
boundary test; under a plan the next run slot, or after the last one the boundary test for a RAMP and the plan end of a
long plan. A cut fade begun late sets g to 0 with the consume of the run's first slot. -/
def State.blockConsumed (s : State) (x : Slot) (rest : List Slot) : State :=
  match s.out.plan with
  | none => (s.consumedHead x rest).boundaryTested
  | some p =>
    let silenced := if p.lateCut = true ∧ p.left = p.runLength then { s with gain := { s.gain with fade := 0 } } else s
    let c := silenced.consumedHead x rest
    if 1 < p.left then { c with out := { c.out with cursor := .next, plan := some { p with left := p.left - 1 } } }
    else if p.kind = .ramp then c.boundaryTested
    else State.planEnd { c with out := { c.out with plan := some { p with left := 0 } } } p.kind

/-- The rows of the part's own events, in the order in which a sample period takes what is due (log 2). -/
def dueRows : List Instr :=
  [.blockPeriodEnd, .watchdogExpiry, .settleEnd, .periodicPosition, .dropped [], .pausedEntry, .stopCompletion,
    .saveStep, .refill, .placeholderRun, .startTestPass, .starvedRecovery]

/-- The state in which the DRAM has lost what a row says (log 10). -/
def State.withLoss (s : State) (upset : List (Nat × Byte)) : State :=
  { s with store := { s.store with dram := Memory.upset s.store.dram upset } }

end Sys2Proof.Machine
end

