-- ==== Sys2Proof/Certificates/Slice0/Obligations.lean ====
section
/-! DEFINITION. The statements for the provers. Each says what one group of rules of the spec gives a command or a
part of the block; a command's whole next state is written out, so that what it leaves alone (every other field, and
every byte of the DRAM) is part of the statement. -/

open Sys2Proof Sys2Proof.Machine

/-! ### The queue and the rows -/

/-- One step takes the command at the front of the queue and answers what `exec` answers on it with the rest of the
queue; on an empty queue the block idles. The model's own convention (log 1). -/
def Obligations.StepRunsFrontCommand : Prop :=
  (∀ (c : Instr) (rest : List Instr) (s : State),
    step { s with pending := c :: rest } = exec c { s with pending := rest })
  ∧ ∀ s : State, step { s with pending := [] } = .next { s with pending := [] }

/-- Every command, in every state and with every operand, ends in a next state with the queue as it was (log 1). -/
def Obligations.NoCommandStops : Prop :=
  ∀ (c : Instr) (s : State), ∃ t, exec c s = .next t ∧ t.pending = s.pending

/-- An event of the part whose time has not come has no effect, nor has an edge the line cannot make, a unit that
passes its checks sent as a refused one, a SECTOR frame without its payload, or a known code or format sent as an unknown
one; DROPPED only has the DRAM's loss (log 1, 6, 7, 10, 24). The tests of the occupancy are in
PlayBeginsAndPausesAtSilence and AbandonsGoOnAfterTheirRun, the transmitter's turn in TransmitterSendsInOrder. -/
def Obligations.WhatCannotComeHasNoEffect : Prop :=
  ∀ s : State,
    (s.out.samples < 480 → exec .blockPeriodEnd s = .next s)
    ∧ (s.timer.expiryDue = false → exec .watchdogExpiry s = .next s)
    ∧ (s.timer.settleDue = false → exec .settleEnd s = .next s)
    ∧ (s.timer.positionDue = false → exec .periodicPosition s = .next s)
    ∧ (s.out.play ≠ .stopping ∨ s.gain.fade ≠ 0 → exec .stopCompletion s = .next s)
    ∧ (s.out.play ≠ .pausing ∨ s.gain.fade ≠ 0 → exec .pausedEntry s = .next s)
    ∧ (s.out.play ≠ .trayHold ∨ s.tray.state ≠ .fading ∨ s.gain.fade ≠ 0 → exec .saveStep s = .next s)
    ∧ (∀ upset, s.gain.fade ≠ 0 ∨ (∀ p ∈ s.out.plan, p.kind ≠ .drop ∨ p.phase ≠ .fading)
        ∨ ¬ (s.out.play = .playing ∨ s.out.play = .pausing ∨ s.out.play = .stopping
          ∨ (s.out.play = .trayHold ∧ s.tray.state = .fading)) →
      exec (.dropped upset) s = .next (s.withLoss upset))
    ∧ (∀ (code : Byte) (params : List Byte), 1 ≤ code.toNat → code.toNat ≤ 13 →
      exec (.unknownCommandCode (code :: params)) s = .next s)
    ∧ (∀ (format : Byte) (record : List Byte), 0x11 ≤ format.toNat → format.toNat ≤ 0x14 →
      exec (.unknownTableFormat (format :: record)) s = .next s)
    ∧ (s.out.play ≠ .priming → exec .startTestPass s = .next s)
    ∧ (s.out.play ≠ .starved ∨ s.gain.fade ≠ 0 → exec .starvedRecovery s = .next s)
    ∧ (s.fill.state ≠ .pausedFull → exec .refill s = .next s)
    ∧ (s.fill.state ≠ .abandonWait ∨ s.fill.owed = none → exec .placeholderRun s = .next s)
    ∧ (s.link.sending.isSome = true → exec .seekSend s = .next s ∧ exec .readPauseSend s = .next s
        ∧ exec .reportSend s = .next s)
    ∧ (s.tray.line = .low → exec .openEdge s = .next s)
    ∧ (s.tray.line = .high → exec .closeEdge s = .next s)
    ∧ (∀ f : SectorFrame, f.payload.length ≠ 1920 → exec (.sector f) s = .next s)
    ∧ (∀ unit, unitCause unit = none → exec (.refusedForwardUnit unit) s = .next s)

/-! ### Forward units (R26 to R33, R192) -/

/-- The checks on a forward unit run in the order kind, length, CRC-8, body, and the first that fails names the
cause (R26 to R30). The CRC-8 starts at 00h and takes each byte by exclusive-or and eight shifts with 31h (R28). -/
def Obligations.ForwardChecksRunInOrder : Prop :=
  (crc8 [] = 0x00#8 ∧ ∀ (bytes : List Byte) (b : Byte),
    crc8 (bytes ++ [b]) = (fun r : Byte => if r.msb then (r <<< 1) ^^^ 0x31#8 else r <<< 1)^[8] (crc8 bytes ^^^ b))
  ∧ ∀ unit : List Byte,
    let kind := unit.headD 0x00#8
    let n := (unit.getD 1 0x00#8).toNat
    let badLength := unit.length < 2 ∨ 60 < n ∨ unit.length ≠ n + 3
    let badCheck := unit.getD (n + 2) 0x00#8 ≠ crc8 (unit.take (n + 2))
    let badBody := n ≠ 2 ∨ 15 < (unit.getD 2 0x00#8).toNat ∨ 1 < (unit.getD 3 0x00#8).toNat
    let control := kind = 0x02#8 ∨ kind = 0x03#8 ∨ kind = 0x04#8
    (unit = [] → unitCause unit = some .kind)
    ∧ (unit ≠ [] → kind ≠ 0x01#8 → ¬ control → unitCause unit = some .kind)
    ∧ (kind = 0x01#8 → unit.length ≠ 1934 → unitCause unit = some .length)
    ∧ (kind = 0x01#8 → unit.length = 1934 → unitCause unit = none)
    ∧ (control → badLength → unitCause unit = some .length)
    ∧ (control → ¬ badLength → badCheck → unitCause unit = some .crc)
    ∧ (kind = 0x02#8 → ¬ badLength → ¬ badCheck → badBody → unitCause unit = some .body)
    ∧ (kind = 0x02#8 → ¬ badLength → ¬ badCheck → ¬ badBody → unitCause unit = none)
    ∧ (kind = 0x03#8 ∨ kind = 0x04#8 → ¬ badLength → ¬ badCheck → unitCause unit = none)

/-- A refused forward unit creates one FRAME_CHECK report with the kind byte, 00h of an empty unit, and the cause,
in every play state, and changes nothing else: kept by the default mask 0, discarded by a mask of 1 or more (R31). -/
def Obligations.RefusedUnitIsReported : Prop :=
  ∀ (s : State) (unit : List Byte) (cause : CheckCause), unitCause unit = some cause →
    exec (.refusedForwardUnit unit) s = .next (s.post (.frameCheck (unit.headD 0x00#8) cause))
    ∧ (s.table.config.mask = 0 → s.reports.length < 16 →
        exec (.refusedForwardUnit unit) s
          = .next { s with reports := s.reports ++ [⟨.frameCheck (unit.headD 0x00#8) cause, false⟩] })
    ∧ (1 ≤ s.table.config.mask → exec (.refusedForwardUnit unit) s = .next s)

/-- Every frame the front end can build in the layouts of R33 is read back as the command it carries: COMMAND and
TABLE frames around any body, SEEK_DONE of every tag and status, SECTOR of every field and whatever its byte 5. -/
def Obligations.ForwardFramesReadBack : Prop :=
  (∀ body : List Byte, body.length ≤ 60 → decodeUnit (controlFrame 0x03#8 body) = decodeCommand body)
  ∧ (∀ body : List Byte, body.length ≤ 60 → decodeUnit (controlFrame 0x04#8 body) = decodeTable body)
  ∧ (∀ (tag : Tag) (status : SeekStatus),
      decodeUnit (controlFrame 0x02#8 [byteOf tag.toNat, byteOf (seekStatusCode status)]) = .seekDone tag status)
  ∧ (∀ (f : SectorFrame) (byte5 : Byte), f.payload.length = 1920 →
      decodeUnit (0x01#8 :: beBytes 3 f.copyA.toNat ++ [f.quality, byte5] ++ f.payload
        ++ beBytes 3 f.copyB.toNat ++ beBytes 3 f.copyC.toNat ++ beBytes 2 f.check.toNat) = .sector f)
  ∧ (∀ params : List Byte,
      decodeCommand (0x01#8 :: params) = .play params ∧ decodeCommand (0x02#8 :: params) = .pause params
      ∧ decodeCommand (0x03#8 :: params) = .resume params ∧ decodeCommand (0x04#8 :: params) = .stop params
      ∧ decodeCommand (0x05#8 :: params) = .setLevel params ∧ decodeCommand (0x06#8 :: params) = .setStop params
      ∧ decodeCommand (0x07#8 :: params) = .setRepeat params ∧ decodeCommand (0x08#8 :: params) = .cue params
      ∧ decodeCommand (0x09#8 :: params) = .identify params
      ∧ decodeCommand (0x0A#8 :: params) = .ackTray params
      ∧ decodeCommand (0x0B#8 :: params) = .clearTimebase params
      ∧ decodeCommand (0x0C#8 :: 0x00#8 :: params) = .queryStatus params
      ∧ (params.head? ≠ some 0x00#8 → decodeCommand (0x0C#8 :: params) = .queryTable params)
      ∧ decodeCommand (0x0D#8 :: params) = .softReset params
      ∧ decodeTable (0x11#8 :: params) = .segmentLoad params ∧ decodeTable (0x12#8 :: params) = .profileLoad params
      ∧ decodeTable (0x13#8 :: params) = .configLoad params ∧ decodeTable (0x14#8 :: params) = .resumeLoad params)
  ∧ (∀ body : List Byte, body = [] ∨ 13 < (body.headD 0x00#8).toNat ∨ body.headD 0x00#8 = 0x00#8 →
      decodeCommand body = .unknownCommandCode body)
  ∧ (∀ body : List Byte, body = [] ∨ (body.headD 0x00#8).toNat < 0x11 ∨ 0x14 < (body.headD 0x00#8).toNat →
      decodeTable body = .unknownTableFormat body)

/-- Whatever bytes a forward unit has, the command read from it is one its row can carry. -/
def Obligations.EveryUnitReadsAsAWellFormedCommand : Prop :=
  ∀ unit : List Byte, (decodeUnit unit).wellFormed = true

/-! ### Arithmetic (spec/07) -/

/-- The level gain of an applied code is the mantissa of code mod 8 shifted right by code div 8 places, 0 for code
63, and stays within 0 to 32,768 (R137). G = (g × Lg + 16,384) >> 15 stays within 0 to 32,768; each output sample is
(s × G + 16,384) >> 15 of a 16-bit sample and needs no clamping, the identity at unity, 0 at gain 0 and for a zero
sample (R138). -/
def Obligations.OutputSamplesStayInRange : Prop :=
  (∀ code : Nat, code ≤ 62 → levelGain code
      = [32768, 30048, 27554, 25268, 23170, 21247, 19484, 17867].getD (code % 8) 0 / 2 ^ (code / 8))
  ∧ levelGain 63 = 0 ∧ (∀ code : Nat, levelGain code ≤ 32768)
  ∧ (∀ g lg : Nat, g ≤ 32768 → lg ≤ 32768 → combinedGain g lg = (g * lg + 16384) / 32768
      ∧ combinedGain g lg ≤ 32768)
  ∧ (∀ (x : Sample) (gain : Nat), gain ≤ 32768 →
      -32768 ≤ (x.toInt * gain + 16384) / 32768 ∧ (x.toInt * gain + 16384) / 32768 ≤ 32767)
  ∧ (∀ (p : Pair) (gain : Nat), gain ≤ 32768 →
      (p.scale gain).left.toInt = (p.left.toInt * gain + 16384) / 32768
      ∧ (p.scale gain).right.toInt = (p.right.toInt * gain + 16384) / 32768)
  ∧ (∀ p : Pair, p.scale 32768 = p ∧ p.scale 0 = Pair.zero)
  ∧ ∀ gain : Nat, gain ≤ 32768 → Pair.zero.scale gain = Pair.zero

/-- Every sample a RAMP hands on lies between its two anchors inclusive, at the distance of R143 from the first,
and is a 16-bit sample as it stands. -/
def Obligations.RampStaysBetweenItsAnchors : Prop :=
  ∀ (a b : Pair) (len k : Nat), 1 ≤ k → k ≤ len →
    let q := fun (x y : Sample) => (2 * ((y.toInt - x.toInt).natAbs * k) + (len + 1)) / (2 * (len + 1))
    let sample := fun (x y : Sample) =>
      if x.toInt ≤ y.toInt then x.toInt + q x y else x.toInt - q x y
    (Pair.ramp a b len k).left.toInt = sample a.left b.left
    ∧ (Pair.ramp a b len k).right.toInt = sample a.right b.right
    ∧ min a.left.toInt b.left.toInt ≤ sample a.left b.left
    ∧ sample a.left b.left ≤ max a.left.toInt b.left.toInt
    ∧ min a.right.toInt b.right.toInt ≤ sample a.right b.right
    ∧ sample a.right b.right ≤ max a.right.toInt b.right.toInt

/-- A fade between 32,768 and 0 at the step of its length F takes exactly F sample periods, one step each, for every
fade code 0 to 6 (R134). The concealment fade length Fq is F where the run is as long, else the largest length of the
list the run has room for, and none below 64 samples; the cut fade length is the smaller of F and 256 (R145, R149). -/
def Obligations.FadesTakeExactlyTheirLength : Prop :=
  ∀ code k samples : Nat, code ≤ 6 →
    let len := 64 * 2 ^ code
    let step := 32768 / len
    stepOfLength (fadeLength code) = step
    ∧ (k ≤ len → (fun g => moveFade g 0 step)^[k] 32768 = 32768 - k * step
      ∧ (fun g => moveFade g 32768 step)^[k] 0 = k * step ∧ (32768 - k * step = 0 ↔ k = len))
    ∧ (len ≤ samples → concealLength (fadeLength code) samples = some len)
    ∧ (samples < len → 64 ≤ samples → ∃ q ∈ [64, 128, 256, 512, 1024, 2048],
        concealLength (fadeLength code) samples = some q ∧ q ≤ samples ∧ samples < 2 * q)
    ∧ (samples < 64 → concealLength (fadeLength code) samples = none)
    ∧ cutLength code = min len 256

/-- The watchdog's budget: from a counter of 0 the expiry comes at no rise up to the 3P-th and has come by the
4P-th, whatever the count, and exactly at the 4P-th when the count starts from a clearing (R155 to R157). The carry
that found the counter at 3 is the model's mark expiryDue (log 4). -/
def Obligations.WatchdogExpiresWithinItsBounds : Prop :=
  ∀ (t : Timer) (c : ConfigRecord) (settling : Bool) (n : Nat),
    t.armed = true → t.watchdog = 0 → t.expiryDue = false → t.count < 65536 → c.watchdogCode ≤ 3 →
    let period := 8 * 2 ^ c.watchdogCode
    let after := fun k => ((fun u : Timer => u.rise c settling)^[k] t).expiryDue
    (n ≤ 3 * period → after n = false)
    ∧ (4 * period ≤ n → after n = true)
    ∧ (t.count = 0 → (after n = true ↔ 4 * period ≤ n))

/-! ### Depth, marks and payload areas (spec/01) -/

/-- The depth and marks in force formed from any record and any received depth (R4, R18): the depth a multiple of
256 within 256 to 2,048, each mark by its clamp, refill level below high-water, high-water at least 8 below the
depth, start threshold not above high-water; a flush forms them from the pending depth, or from the record's. -/
def Obligations.MarksAreFormedWithinTheDepth : Prop :=
  ∀ (st : Store) (received : Nat) (c : ConfigRecord),
    let f := st.form received c
    let high := f.depth - max 8 (min 255 c.highMargin)
    let level := max 16 (min 1792 c.refill)
    (f.depth = if received < 256 then 256 else if 2048 ≤ received then 2048 else received - received % 256)
    ∧ 256 ≤ f.depth ∧ f.depth ≤ 2048 ∧ f.depth % 256 = 0
    ∧ f.highWater = high
    ∧ f.refill = (if high ≤ level then high - 8 else level)
    ∧ f.start = min (max 8 (min 255 c.start)) high
    ∧ f.refill < f.highWater ∧ f.highWater + 8 ≤ f.depth ∧ f.start ≤ f.highWater
    ∧ f = { st with depth := f.depth, highWater := f.highWater, refill := f.refill, start := f.start
                    pendingDepth := none }
    ∧ st.flush c = { st.form (st.pendingDepth.getD c.depth) c with slots := [], head := 0 }

/-- A payload written into a slot's area, which the model puts at byte 1,920 n (log 9), reads back byte for byte, every
other slot's area is untouched, and so is every byte outside the area (R3, R22, R23). The CRC-16 of the check word starts
at FFFFh and takes each byte into its upper eight bits with eight shifts and 1021h; one changed byte changes it
(R21). -/
def Obligations.PayloadAreasReadBack : Prop :=
  (crc16 [] = 0xFFFF#16 ∧ (∀ (bytes : List Byte) (b : Byte), crc16 (bytes ++ [b])
      = (fun r : CheckWord => if r.msb then (r <<< 1) ^^^ 0x1021#16 else r <<< 1)^[8]
          (crc16 bytes ^^^ (b.setWidth 16 <<< 8)))
    ∧ ∀ (front back : List Byte) (b c : Byte), b ≠ c → crc16 (front ++ b :: back) ≠ crc16 (front ++ c :: back))
  ∧ ∀ (d : List Host.Cell) (slot other a : Nat) (payload : List Byte),
    Memory.wf d → payload.length = 1920 →
    Memory.readArea (Memory.write d (1920 * slot) payload) slot = payload
    ∧ (other ≠ slot → Memory.readArea (Memory.write d (1920 * slot) payload) other = Memory.readArea d other)
    ∧ (a < 1920 * slot ∨ 1920 * slot + 1920 ≤ a →
        Memory.read (Memory.write d (1920 * slot) payload) a = Memory.read d a)

/-! ### The Report Unit (R190, R191) -/

/-- A report is discarded at creation at or below the mask level unless its level is 7; a TRAY report updates the
TRAY entry that waits, in its place and with its OVERRUN mark; any other joins a queue with room at its end, its mark
clear; a full queue drops a report below level 7 and marks its newest entry, and for a report of level 7 gives up its
newest entry below level 7 (R190, R191). -/
def Obligations.ReportQueueTakesReportsByLevel : Prop :=
  ∀ (s : State) (r : Report),
    (r.level ≤ s.table.config.mask → r.level ≠ 7 → s.post r = s)
    ∧ (s.table.config.mask < r.level ∨ r.level = 7 →
      (∀ front back : List ReportEntry, ∀ e : ReportEntry, r.isTray = true → e.report.isTray = true →
          front.any (fun x => x.report.isTray) = false → back.any (fun x => x.report.isTray) = false →
          s.reports = front ++ e :: back →
          s.post r = { s with reports := front ++ { e with report := r } :: back })
      ∧ ((r.isTray = true → s.reports.any (fun x => x.report.isTray) = false) → s.reports.length < 16 →
          s.post r = { s with reports := s.reports ++ [⟨r, false⟩] })
      ∧ (∀ front : List ReportEntry, ∀ e : ReportEntry, r.level < 7 → 16 ≤ s.reports.length →
          s.reports = front ++ [e] → s.post r = { s with reports := front ++ [{ e with overrun := true }] })
      ∧ (∀ front back : List ReportEntry, ∀ e : ReportEntry, r.level = 7 → 16 ≤ s.reports.length →
          (r.isTray = true → s.reports.any (fun x => x.report.isTray) = false) →
          e.report.level < 7 → (∀ x ∈ back, x.report.level = 7) → s.reports = front ++ e :: back →
          s.post r = { s with reports := front ++ back ++ [⟨r, true⟩] }))

/-- The frame built for a report is a control frame with its kind, its length and its CRC-8 around the kind code, the
level, the OVERRUN byte and the report's fields; kind codes 01h to 10h, levels and fields in order are those of R193,
each enumeration coded in the order of its listing (R33, R182, R192, R193; the record byte of RESULT, the line byte of
TRAY and the outcome of RESUME: log 18). A record that QUERY returns has the bytes of R192 for its kind (R181). -/
def Obligations.ReportFramesHaveTheirLayout : Prop :=
  (∀ (e : ReportEntry) (edges : Nat),
    e.frame edges = controlFrame 0x83#8
      ([byteOf e.report.kindCode, byteOf e.report.level, flagByte e.overrun] ++ e.report.fields edges))
  ∧ (∀ (kind : Byte) (body : List Byte),
      (controlFrame kind body).length = body.length + 3
      ∧ (controlFrame kind body).take (body.length + 2) = kind :: BitVec.ofNat 8 body.length :: body
      ∧ (controlFrame kind body).getLast? = some (crc8 (kind :: BitVec.ofNat 8 body.length :: body)))
  ∧ (flagByte false = 0x00#8 ∧ flagByte true = 0x01#8)
  ∧ (∀ n : Nat, byteOf n = BitVec.ofNat 8 n)
  ∧ (let one := fun n : Nat => (BitVec.ofNat 8 n : Byte)
    let two := fun n : Nat => [one (n / 256), one n]
    let three := fun n : Nat => [one (n / 65536), one (n / 256), one n]
    let four := fun n : Nat => [one (n / 16777216), one (n / 65536), one (n / 256), one n]
    let flag := fun b : Bool => if b then 0x01#8 else 0x00#8
    let play := fun (p : PlayState) => (match p with
      | .idle => 0x00#8 | .priming => 0x01#8 | .playing => 0x02#8 | .pausing => 0x03#8 | .paused => 0x04#8
      | .starved => 0x05#8 | .stopping => 0x06#8 | .trayHold => 0x07#8 | .halted => 0x08#8)
    let fill := fun (f : FillState) => (match f with
      | .stopped => 0x00#8 | .seeking => 0x01#8 | .relocking => 0x02#8 | .tracking => 0x03#8
      | .pausedFull => 0x04#8 | .abandonWait => 0x05#8 | .ended => 0x06#8 | .halted => 0x07#8)
    let tray := fun (t : TrayState) => (match t with
      | .closed => 0x00#8 | .fading => 0x01#8 | .opened => 0x02#8 | .settling => 0x03#8 | .awaitId => 0x04#8)
    let plan := fun (k : PlanKind) => (match k with
      | .ramp => 0x00#8 | .fade => 0x01#8 | .mute => 0x02#8 | .drop => 0x03#8)
    let place := fun (p : Position) => one p.segment.val :: three p.address ++ two p.offset
    ∀ (r : Report) (edges : Nat), (r.kindCode, r.level, r.fields edges) = (match r with
      | .result source code outcome present => (0x01, 6, [
          (match source with | .command => 0x03#8 | .table => 0x04#8), code,
          (match outcome with
            | .done => 0x00#8 | .busy => 0x01#8 | .invalid => 0x02#8 | .inUse => 0x03#8 | .format => 0x04#8
            | .tray => 0x05#8 | .halted => 0x06#8),
          if present then 0x00#8 else 0x01#8])
      | .status f => (0x02, 6, [play f.play, fill f.fill, tray f.tray] ++ three f.headAddress ++ two f.offset
          ++ two f.count ++ two f.depth ++ [one f.faults, one f.retry, one f.abandon, one f.level]
          ++ (match f.fingerprint with | none => 0x00#8 :: four 0 | some n => 0x01#8 :: four n.toNat) ++ two f.noisy)
      | .tableReply format index record => (0x03, 6, match record with
          | none => [format, index, 0x00#8]
          | some bytes => format :: index :: 0x01#8 :: bytes)
      | .frameCheck kind cause => (0x04, 1, [kind, (match cause with
          | .kind => 0x00#8 | .length => 0x01#8 | .crc => 0x02#8 | .body => 0x03#8)])
      | .lateAnswer tag status => (0x05, 1, [one tag.toNat, (match status with
          | .locked => 0x00#8 | .failed => 0x01#8)])
      | .skipDetected arrived expected segment vote => (0x06, 3, three arrived ++ three expected
          ++ [one segment.val, (match vote with | .clean => 0x00#8 | .noisy => 0x01#8)])
      | .repaired address segment quality attempts distance => (0x07, 3, three address ++ [one segment.val,
          (match quality with | .clean => 0x00#8 | .repaired => 0x01#8 | .damaged => 0x02#8 | .missing => 0x03#8),
          (match attempts with | none => 0xFF#8 | some n => one n)] ++ two distance)
      | .concealed kind length address segment first fallback => (0x08, 4, plan kind :: two length ++ three address
          ++ [one segment.val, (match first with | .damaged => 0x00#8 | .missing => 0x01#8 | .check => 0x02#8),
            flag fallback])
      | .starved segment address f => (0x09, 5, one segment.val :: three address ++ [fill f])
      | .stopReached segment address => (0x0A, 5, one segment.val :: three address)
      | .endOfList segment address => (0x0B, 5, one segment.val :: three address)
      | .position cause pos p => (0x0C, 2, (match cause with | .segment => 0x00#8 | .periodic => 0x01#8) :: place pos
          ++ [play p])
      | .segmentGivenUp segment first following => (0x0D, 5, one segment.val :: three first
          ++ [match following with | none => 0xFF#8 | some n => one n.val])
      | .resume outcome f pos => (0x0E, 5, (match outcome with
          | .resumed => 0x00#8 | .refusedFormat => 0x01#8 | .refusedPosition => 0x02#8 | .noRecord => 0x03#8)
          :: four f.toNat ++ (match pos with | none => List.replicate 6 0x00#8 | some p => place p))
      | .tray line state => (0x0F, 7, [(match line with | .low => 0x00#8 | .high => 0x01#8), one edges, tray state])
      | .halted pos kind => (0x10, 7, place pos ++ [plan kind])))
  ∧ (∀ (i : Byte) (e : PlayEntry) (p : Profile) (c : ConfigRecord) (r : ResumeRecord),
      (e.bytes i).length = 9 ∧ (p.bytes i).length = 6 ∧ c.bytes.length = 17 ∧ r.bytes.length = 14)

/-! ### Commands in HALTED and malformed frames (R179, R180, R183) -/

/-- In HALTED every COMMAND but QUERY and RESET, and every TABLE frame, whatever its form, is answered HALTED and
changes nothing else (R129, R179); and no command but a reset moves what is frozen: the play state, the cursor, the
block buffer, the plan, the slots, the ring and its marks, the Fault List, the tracker and the fill (R15, R106,
R128). -/
def Obligations.HaltedStaysFrozen : Prop :=
  (∀ (s t : State) (c : Instr), s.out.play = .halted → s.fill.state = .halted → s.timer.armed = false →
    (∀ line, c ≠ .hardReset line) → c ≠ .softReset [] → exec c s = .next t →
      t.out = { s.out with samples := t.out.samples, audio := t.out.audio }
      ∧ t.store = { s.store with dram := t.store.dram } ∧ (c.keepsDram = true → t.store.dram = s.store.dram)
      ∧ t.faults = s.faults ∧ t.track = s.track ∧ t.fill = s.fill ∧ t.timer.armed = false)
  ∧ ∀ (s : State) (b : List Byte), s.out.play = .halted →
    exec (.play b) s = .next (s.post (.result .command 0x01#8 .halted false))
    ∧ exec (.pause b) s = .next (s.post (.result .command 0x02#8 .halted false))
    ∧ exec (.resume b) s = .next (s.post (.result .command 0x03#8 .halted false))
    ∧ exec (.stop b) s = .next (s.post (.result .command 0x04#8 .halted false))
    ∧ exec (.setLevel b) s = .next (s.post (.result .command 0x05#8 .halted false))
    ∧ exec (.setStop b) s = .next (s.post (.result .command 0x06#8 .halted false))
    ∧ exec (.setRepeat b) s = .next (s.post (.result .command 0x07#8 .halted false))
    ∧ exec (.cue b) s = .next (s.post (.result .command 0x08#8 .halted false))
    ∧ exec (.identify b) s = .next (s.post (.result .command 0x09#8 .halted false))
    ∧ exec (.ackTray b) s = .next (s.post (.result .command 0x0A#8 .halted false))
    ∧ exec (.clearTimebase b) s = .next (s.post (.result .command 0x0B#8 .halted false))
    ∧ exec (.segmentLoad b) s = .next (s.post (.result .table 0x11#8 .halted false))
    ∧ exec (.profileLoad b) s = .next (s.post (.result .table 0x12#8 .halted false))
    ∧ exec (.configLoad b) s = .next (s.post (.result .table 0x13#8 .halted false))
    ∧ exec (.resumeLoad b) s = .next (s.post (.result .table 0x14#8 .halted false))
    ∧ (unknownCode b → exec (.unknownCommandCode b) s
        = .next (s.post (.result .command (b.headD 0x00#8) .halted false)))
    ∧ (unknownFormat b → exec (.unknownTableFormat b) s
        = .next (s.post (.result .table (b.headD 0x00#8) .halted false)))

/-- A COMMAND of a length no form of it has, or with an unknown code or no body, is answered INVALID; a TABLE frame
of a wrong length, or with an unknown format or no body, is answered FORMAT; neither changes anything else. RESET of
a wrong length is answered INVALID in every play state (R180, R183, R192). -/
def Obligations.MalformedFramesChangeNothing : Prop :=
  ∀ (s : State) (b : List Byte),
    (b ≠ [] → exec (.softReset b) s = .next (s.post (.result .command 0x0D#8 .invalid false)))
    ∧ (s.out.play ≠ .halted →
      (b.length ≠ 1 → b.length ≠ 4 → exec (.play b) s = .next (s.post (.result .command 0x01#8 .invalid false)))
      ∧ (b ≠ [] →
        exec (.pause b) s = .next (s.post (.result .command 0x02#8 .invalid false))
        ∧ exec (.resume b) s = .next (s.post (.result .command 0x03#8 .invalid false))
        ∧ exec (.stop b) s = .next (s.post (.result .command 0x04#8 .invalid false))
        ∧ exec (.cue b) s = .next (s.post (.result .command 0x08#8 .invalid false))
        ∧ exec (.ackTray b) s = .next (s.post (.result .command 0x0A#8 .invalid false))
        ∧ exec (.clearTimebase b) s = .next (s.post (.result .command 0x0B#8 .invalid false)))
      ∧ (b.length ≠ 1 →
        exec (.setLevel b) s = .next (s.post (.result .command 0x05#8 .invalid false))
        ∧ exec (.setStop b) s = .next (s.post (.result .command 0x06#8 .invalid false))
        ∧ exec (.setRepeat b) s = .next (s.post (.result .command 0x07#8 .invalid false)))
      ∧ (b.length ≠ 4 → exec (.identify b) s = .next (s.post (.result .command 0x09#8 .invalid false)))
      ∧ (unknownCode b → exec (.unknownCommandCode b) s
          = .next (s.post (.result .command (b.headD 0x00#8) .invalid false)))
      ∧ (b.length ≠ 9 → exec (.segmentLoad b) s = .next (s.post (.result .table 0x11#8 .format false)))
      ∧ (b.length ≠ 6 → exec (.profileLoad b) s = .next (s.post (.result .table 0x12#8 .format false)))
      ∧ (b.length ≠ 17 → exec (.configLoad b) s = .next (s.post (.result .table 0x13#8 .format false)))
      ∧ (b.length ≠ 14 → exec (.resumeLoad b) s = .next (s.post (.result .table 0x14#8 .format false)))
      ∧ (unknownFormat b → exec (.unknownTableFormat b) s
          = .next (s.post (.result .table (b.headD 0x00#8) .format false))))

/-! ### The commands of play (R110, R115, R122 to R124, R136) -/

/-- PLAY of a VALID segment with the tray CLOSED, in every play state but HALTED: the audio cut off, the store
emptied, E and the fill segment set to the start or to the address clamped into the segment, the START seek issued
with the next tag, PRIMING entered, DONE answered (R115, R68, R44). -/
def Obligations.PlayStartsAtItsPosition : Prop :=
  ∀ (s : State) (seg : SegmentIndex) (address : Option (BitVec 24)),
    let e := s.table.playList[seg]
    let params := byteOf seg.val :: (match address with | none => [] | some a => beBytes 3 a.toNat)
    let start := match address with
      | none => e.first
      | some a => if a.toNat < e.first then e.first else if e.last < a.toNat then e.last else a.toNat
    s.out.play ≠ .halted → s.tray.state = .closed → e.valid = true → e.first ≤ e.last →
      exec (.play params) s
        = .next ((s.startedAt ⟨seg, start, 0⟩ .start).post (.result .command 0x01#8 .done false))

/-- PLAY of a segment above 63 or not VALID is answered INVALID, whatever the tray; of a VALID segment with the tray
not CLOSED it is answered TRAY (R115, R180). RESUME outside PAUSED and PAUSING is answered TRAY in TRAY_HOLD and BUSY
elsewhere (R123, R129). Nothing else changes. -/
def Obligations.PlayAndResumeAreRefused : Prop :=
  (∀ (s : State) (b : Byte) (rest : List Byte), s.out.play ≠ .halted → rest = [] ∨ rest.length = 3 →
    (64 ≤ b.toNat → exec (.play (b :: rest)) s = .next (s.post (.result .command 0x01#8 .invalid false)))
    ∧ ∀ seg : SegmentIndex, b.toNat = seg.val →
      (s.table.playList[seg].valid = false →
        exec (.play (b :: rest)) s = .next (s.post (.result .command 0x01#8 .invalid false)))
      ∧ (s.table.playList[seg].valid = true → s.tray.state ≠ .closed →
        exec (.play (b :: rest)) s = .next (s.post (.result .command 0x01#8 .tray false))))
  ∧ ∀ s : State,
    (s.out.play = .trayHold → exec (.resume []) s = .next (s.post (.result .command 0x03#8 .tray false)))
    ∧ (s.out.play = .idle ∨ s.out.play = .priming ∨ s.out.play = .playing ∨ s.out.play = .starved
        ∨ s.out.play = .stopping →
      exec (.resume []) s = .next (s.post (.result .command 0x03#8 .busy false)))

/-- PAUSE by play state: PAUSING with the fade toward 0 and DONE in PLAYING and STARVED, TRAY in TRAY_HOLD, BUSY in
the others (R122, R129, R135). -/
def Obligations.PauseActsByPlayState : Prop :=
  ∀ s : State,
    (s.out.play = .playing ∨ s.out.play = .starved →
      exec (.pause []) s = .next ((s.fadedInto .pausing 0).post (.result .command 0x02#8 .done false)))
    ∧ (s.out.play = .trayHold → exec (.pause []) s = .next (s.post (.result .command 0x02#8 .tray false)))
    ∧ (s.out.play = .idle ∨ s.out.play = .priming ∨ s.out.play = .pausing ∨ s.out.play = .paused
        ∨ s.out.play = .stopping →
      exec (.pause []) s = .next (s.post (.result .command 0x02#8 .busy false)))

/-- RESUME from PAUSED and PAUSING: PLAYING with the fade turned up, but that in PAUSING a FADE plan that has not faded
out and a DROP in FADING ask for their fade-out again; a cursor that waits makes the block boundary test of PLAYING at
once, its report ahead of the RESULT; a consume that a completed fade held back is the first event after the RESULT
(R118, R122, R123, R150; log 12, 15). -/
def Obligations.ResumeTurnsTheFadeUp : Prop :=
  (∀ s : State, s.out.cursor = .waiting → s.out.plan = none → s.out.play = .paused ∨ s.out.play = .pausing →
    exec (.resume []) s
      = .next ((s.fadedInto .playing 32768).boundaryTested.post (.result .command 0x03#8 .done false)))
  ∧ ∀ s t : State, s.out.cursor ≠ .waiting →
    (t = s.fadedInto .playing 32768 ∧ (s.out.play = .paused ∨ (s.out.play = .pausing ∧ ∀ p ∈ s.out.plan,
        p.kind = .ramp ∨ p.kind = .mute ∨ p.fadeStep = none ∨ (p.kind = .fade ∧ p.fadedOut = true)
          ∨ (p.kind = .drop ∧ p.phase = .dropped))))
      ∨ (s.out.play = .pausing ∧ ∃ p ∈ s.out.plan, ∃ step ∈ p.fadeStep,
        ((p.kind = .fade ∧ p.fadedOut = false) ∨ (p.kind = .drop ∧ p.phase = .fading))
        ∧ t = { s with
            out := { s.out with play := .playing }
            gain := { s.gain with target := 0, step := step, source := .fixed } }) →
    let answered := t.post (.result .command 0x03#8 .done false)
    (s.out.cursor ≠ .finished → exec (.resume []) s = .next answered)
    ∧ ∀ (x : Slot) (rest : List Slot), s.out.cursor = .finished → s.store.slots = x :: rest →
      exec (.resume []) s = .next (answered.blockConsumed x rest)

/-- STOP by play state: STOPPING with the fade toward 0 in PLAYING, PAUSING and STARVED; the STOP completion at once
in PAUSED and PRIMING; DONE without a change in IDLE, BUSY in STOPPING, TRAY in TRAY_HOLD. The completion as an event
of its own is taken when g is 0 in STOPPING, and takes the tray out of FADING (R124, R170). -/
def Obligations.StopActsByPlayState : Prop :=
  ∀ s : State,
    (s.out.play = .playing ∨ s.out.play = .pausing ∨ s.out.play = .starved →
      exec (.stop []) s = .next ((s.fadedInto .stopping 0).post (.result .command 0x04#8 .done false)))
    ∧ (s.out.play = .paused ∨ s.out.play = .priming →
      exec (.stop []) s = .next (s.stopped.post (.result .command 0x04#8 .done false)))
    ∧ (s.out.play = .idle → exec (.stop []) s = .next (s.post (.result .command 0x04#8 .done false)))
    ∧ (s.out.play = .stopping → exec (.stop []) s = .next (s.post (.result .command 0x04#8 .busy false)))
    ∧ (s.out.play = .trayHold → exec (.stop []) s = .next (s.post (.result .command 0x04#8 .tray false)))
    ∧ (s.out.play = .stopping → s.gain.fade = 0 → exec .stopCompletion s = .next s.stopped)

/-- SET_LEVEL, SET_STOP, SET_REPEAT, CUE and CLEAR_TIMEBASE outside HALTED: the one value each sets, its clamp or its
refusal, and nothing else (R110, R136, R154). That CLEAR_TIMEBASE takes a carry and a settle end that still wait with
it is the model's (log 4, 5). -/
def Obligations.SteeringCommandsSetTheirValue : Prop :=
  ∀ (s : State) (b : Byte), s.out.play ≠ .halted →
    exec (.setLevel [b]) s
      = .next ({ s with gain := { s.gain with requested := if 63 < b.toNat then 63 else b.toNat } }.post
          (.result .command 0x05#8 .done false))
    ∧ (∀ seg : SegmentIndex, b.toNat = seg.val → exec (.setStop [b]) s
      = .next ({ s with table := { s.table with stopIndex := some seg } }.post (.result .command 0x06#8 .done false)))
    ∧ (b.toNat = 255 → exec (.setStop [b]) s
      = .next ({ s with table := { s.table with stopIndex := none } }.post (.result .command 0x06#8 .done false)))
    ∧ (64 ≤ b.toNat → b.toNat ≤ 254 → exec (.setStop [b]) s
      = .next (s.post (.result .command 0x06#8 .invalid false)))
    ∧ (b.toNat ≤ 1 → exec (.setRepeat [b]) s
      = .next ({ s with table := { s.table with repeatFlag := decide (b.toNat = 1) } }.post
          (.result .command 0x07#8 .done false)))
    ∧ (2 ≤ b.toNat → exec (.setRepeat [b]) s = .next (s.post (.result .command 0x07#8 .invalid false)))
    ∧ (s.out.play ≠ .trayHold → exec (.cue []) s
      = .next ({ s with table := { s.table with cueFlag := true } }.post (.result .command 0x08#8 .done false)))
    ∧ (s.out.play = .trayHold → exec (.cue []) s = .next (s.post (.result .command 0x08#8 .tray false)))
    ∧ exec (.clearTimebase []) s
      = .next ({ s with timer := { s.timer with count := 0, watchdog := 0, expiryDue := false
                                                settleDue := false } }.post
          (.result .command 0x0B#8 .done false))

/-! ### The tray and the disc (spec/09) -/

/-- An open edge sets the pending flag, counts the edge up to 255, brings the line low and reports the tray after its
handling (R162, R163, log 23). In CLOSED it acts by play state: a fade in TRAY_HOLD, with the save step at once where
g stands at 0, only FADING in STOPPING, OPEN without the fingerprint in IDLE and HALTED (R166). Elsewhere FADING
stays, and SETTLING and AWAIT_ID become OPEN, a settle end that waits going with SETTLING (R167, log 5). -/
def Obligations.OpenEdgeActsByTrayAndPlayState : Prop :=
  ∀ s : State, s.tray.line = .high →
    let edged := { s.tray with line := .low, pendingFlag := true, edges := min (s.tray.edges + 1) 255 }
    let held := { s.fadedInto .trayHold 0 with tray := { edged with state := .fading } }
    (s.tray.state = .closed →
      (s.out.play = .playing ∨ s.out.play = .pausing ∨ s.out.play = .starved ∨ s.out.play = .priming
          ∨ s.out.play = .paused →
        (s.gain.fade ≠ 0 → exec .openEdge s = .next (held.post (.tray .low .fading)))
        ∧ (s.gain.fade = 0 →
            exec .openEdge s = .next ((held.savedAt held.savePosition).post (.tray .low .opened))))
      ∧ (s.out.play = .stopping → exec .openEdge s
          = .next ({ s with tray := { edged with state := .fading } }.post (.tray .low .fading)))
      ∧ (s.out.play = .idle ∨ s.out.play = .halted → exec .openEdge s
          = .next ({ s with tray := { edged with state := .opened, fingerprint := none } }.post
              (.tray .low .opened))))
    ∧ (s.tray.state = .fading → exec .openEdge s = .next ({ s with tray := edged }.post (.tray .low .fading)))
    ∧ (s.tray.state = .settling → exec .openEdge s
        = .next ({ s with tray := { edged with state := .opened }, timer := { s.timer with settleDue := false } }.post
            (.tray .low .opened)))
    ∧ (s.tray.state = .awaitId → exec .openEdge s
        = .next ({ s with tray := { edged with state := .opened } }.post (.tray .low .opened)))

/-- A close edge sets the pending flag, counts the edge, brings the line high, clears the timebase and the watchdog
counter, and reports the tray after its handling; OPEN becomes SETTLING and FADING stays (R154, R162, R163, R167;
log 23). A carry and a settle end that wait go with the clearing (log 4, 5). -/
def Obligations.CloseEdgeClearsTheTimebase : Prop :=
  ∀ s : State, s.tray.line = .low →
    let edged := { s.tray with line := .high, pendingFlag := true, edges := min (s.tray.edges + 1) 255 }
    let cleared := { s.timer with count := 0, watchdog := 0, expiryDue := false, settleDue := false }
    (s.tray.state = .opened → exec .closeEdge s
      = .next ({ s with tray := { edged with state := .settling }, timer := cleared }.post (.tray .high .settling)))
    ∧ (s.tray.state = .fading → exec .closeEdge s
      = .next ({ s with tray := edged, timer := cleared }.post (.tray .high .fading)))

/-- The save step at g = 0 in FADING with TRAY_HOLD: the record at the front of the Resume Table where the disc is
known, the store emptied, the fill stopped with its READ_PAUSE, the fingerprint gone, the tray state by the line, and
the position kept: the pair that would be handed on next, of the following slot where the head's last pair has been
handed on (R168, R169, R172, R125; log 12, 14). The list signature is the CRC-16 over the eight bytes of each of the 64
entries in order (R173). -/
def Obligations.SaveStepRecordsTheNextPair : Prop :=
  (∀ t : Tables, t.signature = crc16 (t.playList.toList.flatMap (fun e =>
    [BitVec.ofNat 8 (e.first / 65536), BitVec.ofNat 8 (e.first / 256), BitVec.ofNat 8 e.first,
      BitVec.ofNat 8 (e.last / 65536), BitVec.ofNat 8 (e.last / 256), BitVec.ofNat 8 e.last,
      BitVec.ofNat 8 e.profile.val, BitVec.ofNat 8 ((if e.valid then 1 else 0) + (if e.eol then 2 else 0))])))
  ∧ ∀ s : State, s.out.play = .trayHold → s.tray.state = .fading → s.gain.fade = 0 →
    (∀ (slot : Slot) (rest : List Slot) (off : Nat), s.out.cursor = .head off →
      s.store.slots = slot :: rest →
      exec .saveStep s = .next (s.savedAt ⟨slot.segment, slot.address, off⟩))
    ∧ (∀ (slot following : Slot) (rest : List Slot), s.out.cursor = .finished →
      s.store.slots = slot :: following :: rest →
      exec .saveStep s = .next (s.savedAt ⟨following.segment, following.address, 0⟩))
    ∧ (∀ slot : Slot, s.out.cursor = .finished → s.store.slots = [slot] →
      exec .saveStep s = .next (s.savedAt ⟨s.track.segment, s.track.expected, 0⟩))
    ∧ (∀ (slot : Slot) (rest : List Slot), s.out.cursor = .waiting ∨ s.out.cursor = .next →
      s.store.slots = slot :: rest →
      exec .saveStep s = .next (s.savedAt ⟨slot.segment, slot.address, s.out.startOffset⟩))
    ∧ (s.out.cursor = .waiting → s.store.slots = [] →
      exec .saveStep s = .next (s.savedAt ⟨s.track.segment, s.track.expected, s.out.startOffset⟩))

/-- ACK_TRAY outside HALTED clears the pending flag, but under EDGE_AND_LEVEL with the line low it stays set and the
tray is reported again without a count; DONE answered (R164). -/
def Obligations.AckTrayClearsThePendingFlag : Prop :=
  ∀ s : State, s.out.play ≠ .halted →
    (s.table.config.sensitivity = .edge ∨ s.tray.line = .high →
      exec (.ackTray []) s
        = .next ({ s with tray := { s.tray with pendingFlag := false } }.post (.result .command 0x0A#8 .done false)))
    ∧ (s.table.config.sensitivity = .edgeAndLevel → s.tray.line = .low →
      exec (.ackTray []) s
        = .next (({ s with tray := { s.tray with pendingFlag := true } }.post (.tray .low s.tray.state)).post
            (.result .command 0x0A#8 .done false)))

/-- IDENTIFY outside a resume decision: in IDLE with the pending flag clear, CLOSED or AWAIT_ID, it sets the
fingerprint, closes the tray and answers DONE with whether a record stands; every other case of R174 outside HALTED
answers BUSY and changes nothing (R171, R174, R180). -/
def Obligations.IdentifyNamesTheDisc : Prop :=
  ∀ (s : State) (f : Fingerprint), s.out.play ≠ .halted →
    let params := beBytes 4 f.toNat
    let known := s.tray.records.any (fun r => r.fingerprint == f)
    (s.tray.pendingFlag = false → s.out.play = .idle → s.tray.state = .closed ∨ s.tray.state = .awaitId →
      exec (.identify params) s
        = .next ({ s with tray := { s.tray with fingerprint := some f, state := .closed } }.post
            (.result .command 0x09#8 .done known)))
    ∧ (s.tray.pendingFlag = true ∨ s.tray.state = .fading ∨ s.tray.state = .opened ∨ s.tray.state = .settling
        ∨ (s.tray.state = .closed ∧ s.out.play ≠ .idle)
        ∨ (s.tray.state = .awaitId ∧ s.out.play ≠ .idle ∧ s.out.play ≠ .trayHold) →
      exec (.identify params) s = .next (s.post (.result .command 0x09#8 .busy false)))

/-- IDENTIFY in AWAIT_ID with TRAY_HOLD and the flag clear decides a resume, RESUME report first and RESULT after:
NO_RECORD, REFUSED_FORMAT on another list signature, REFUSED_POSITION outside a VALID segment, each ending in IDLE;
else the saved play is restored, its level and repeat flag with it, the state fade of PRIMING takes the step of profile
0, and the record moves to the front (R114, R135, R174 to R177). -/
def Obligations.IdentifyDecidesTheResume : Prop :=
  ∀ (s : State) (f : Fingerprint), s.out.play = .trayHold → s.tray.state = .awaitId → s.tray.pendingFlag = false →
    let params := beBytes 4 f.toNat
    let idle := { s.fadedInto .idle 0 with
      tray := { s.tray with fingerprint := some f, state := .closed, saved := none } }
    ((∀ r ∈ s.tray.records, r.fingerprint ≠ f) →
      exec (.identify params) s
        = .next ((idle.post (.resume .noRecord f none)).post (.result .command 0x09#8 .done false)))
    ∧ ∀ (front back : List ResumeRecord) (r : ResumeRecord),
      s.tray.records = front ++ r :: back → r.fingerprint = f → (∀ x ∈ front ++ back, x.fingerprint ≠ f) →
      let e := s.table.playList[r.position.segment]
      (r.signature ≠ s.table.signature →
        exec (.identify params) s
          = .next ((idle.post (.resume .refusedFormat f (some r.position))).post
              (.result .command 0x09#8 .done true)))
      ∧ (r.signature = s.table.signature →
        e.valid = false ∨ r.position.address < e.first ∨ e.last < r.position.address →
        exec (.identify params) s
          = .next ((idle.post (.resume .refusedPosition f (some r.position))).post
              (.result .command 0x09#8 .done true)))
      ∧ (r.signature = s.table.signature →
        e.valid = true → e.first ≤ r.position.address → r.position.address ≤ e.last →
        let u := { s with
          gain := { s.gain with requested := r.level, applied := r.level }
          table := { s.table with repeatFlag := r.repeatFlag }
          tray := { s.tray with
            fingerprint := some f, state := .closed, saved := none, records := r :: (front ++ back) } }
        let v := u.startedAt r.position .resume
        let step := 32768 / (64 * 2 ^ s.table.profiles[(0 : ProfileIndex)].fadeCode)
        exec (.identify params) s
          = .next ((State.post { v with gain := { v.gain with step := step, source := StepSource.currentProfile } }
              (.resume .resumed f (some r.position))).post (.result .command 0x09#8 .done true)))

/-! ### Queries and table loads (R181 to R188) -/

/-- QUERY of STATUS alone answers with the STATUS report of the state as it stands, reads the noisy-vote count and
sets it to 0, in every play state; with a byte after the selector it is answered INVALID (R24, R38, R181, R182). The
offset of a cursor between two blocks is the model's: the start offset of one that has passed on, 479 of one whose
consume is held back (log 12, 19). -/
def Obligations.QueryStatusReadsTheState : Prop :=
  ∀ s : State,
    exec (.queryStatus []) s = .next ({ s with link := { s.link with noisy := 0 } }.post (.status {
      play := s.out.play, fill := s.fill.state, tray := s.tray.state
      headAddress := (match s.store.slots with | [] => 0 | slot :: _ => slot.address)
      offset := (match s.out.cursor with
        | .none => 0
        | .waiting => s.out.startOffset
        | .next => s.out.startOffset
        | .head off => off
        | .finished => 479)
      count := s.store.slots.length, depth := s.store.depth, faults := s.faults.length
      retry := s.fill.retry, abandon := s.fill.abandon, level := s.gain.applied
      fingerprint := s.tray.fingerprint, noisy := s.link.noisy }))
    ∧ ∀ (b : Byte) (rest : List Byte),
      exec (.queryStatus (b :: rest)) s = .next (s.post (.result .command 0x0C#8 .invalid false))

/-- QUERY of a table answers with the record held at the index, in every play state, byte for byte: a play list entry, a
profile, the configuration record whatever the index, a resume record or none; INVALID for an index beyond the table or a
form of the wrong length, three bytes and more included (log 25), FORMAT for any other selector, alone or with an index;
no state changes. Bits 2 to 7 of a SEGMENT's flags are sent as 0, which is the model's (log 35) (R181, R192). -/
def Obligations.QueryTableReadsTheHeldRecord : Prop :=
  ∀ (s : State) (i : Byte),
    (∀ seg : SegmentIndex, i.toNat = seg.val →
      let e := s.table.playList[seg]
      exec (.queryTable [0x11#8, i]) s = .next (s.post (.tableReply 0x11#8 i (some (i ::
        (beBytes 3 e.first ++ beBytes 3 e.last ++ [byteOf e.profile.val,
          byteOf ((if e.valid then 1 else 0) + (if e.eol then 2 else 0))]))))))
    ∧ (∀ index : ProfileIndex, i.toNat = index.val →
      let p := s.table.profiles[index]
      exec (.queryTable [0x12#8, i]) s = .next (s.post (.tableReply 0x12#8 i (some [i, byteOf p.rampLimit,
        (match p.longAction with | .fade => 0x00#8 | .mute => 0x01#8 | .drop => 0x02#8), byteOf p.fadeCode,
        (if p.repairEnable then 0x01#8 else 0x00#8), byteOf p.repairLead]))))
    ∧ exec (.queryTable [0x13#8, i]) s = .next (s.post (.tableReply 0x13#8 i (some (
      let c := s.table.config
      [byteOf (c.depth / 256), byteOf c.depth, byteOf c.highMargin, byteOf (c.refill / 256), byteOf c.refill,
        byteOf c.start, byteOf c.window, byteOf c.runIn, byteOf c.retryLimit, byteOf c.skipAhead,
        byteOf c.abandonLimit, byteOf c.attemptLimit, byteOf c.watchdogCode, byteOf c.settle, byteOf c.mask,
        (match c.positionMode with | .off => 0x00#8 | .segment => 0x01#8 | .periodic => 0x02#8),
        (match c.sensitivity with | .edge => 0x00#8 | .edgeAndLevel => 0x01#8)]))))
    ∧ (∀ r : ResumeRecord, i.toNat < 8 → s.tray.records[i.toNat]? = some r →
      exec (.queryTable [0x14#8, i]) s = .next (s.post (.tableReply 0x14#8 i (some (
        [byteOf (r.fingerprint.toNat / 16777216), byteOf (r.fingerprint.toNat / 65536),
          byteOf (r.fingerprint.toNat / 256), byteOf r.fingerprint.toNat, byteOf (r.signature.toNat / 256),
          byteOf r.signature.toNat, byteOf r.position.segment.val, byteOf (r.position.address / 65536),
          byteOf (r.position.address / 256), byteOf r.position.address, byteOf (r.position.offset / 256),
          byteOf r.position.offset, byteOf r.level, if r.repeatFlag then 0x01#8 else 0x00#8])))))
    ∧ (i.toNat < 8 → s.tray.records[i.toNat]? = none →
      exec (.queryTable [0x14#8, i]) s = .next (s.post (.tableReply 0x14#8 i none)))
    ∧ (64 ≤ i.toNat → exec (.queryTable [0x11#8, i]) s = .next (s.post (.result .command 0x0C#8 .invalid false)))
    ∧ (4 ≤ i.toNat → exec (.queryTable [0x12#8, i]) s = .next (s.post (.result .command 0x0C#8 .invalid false)))
    ∧ (8 ≤ i.toNat → exec (.queryTable [0x14#8, i]) s = .next (s.post (.result .command 0x0C#8 .invalid false)))
    ∧ (∀ selector : Byte, selector ≠ 0x00#8 → selector.toNat < 0x11 ∨ 0x14 < selector.toNat →
      exec (.queryTable [selector, i]) s = .next (s.post (.result .command 0x0C#8 .format false))
      ∧ exec (.queryTable [selector]) s = .next (s.post (.result .command 0x0C#8 .format false)))
    ∧ (∀ (a b c : Byte) (rest : List Byte),
      exec (.queryTable (a :: b :: c :: rest)) s = .next (s.post (.result .command 0x0C#8 .invalid false)))
    ∧ (∀ selector : Byte, 0x11 ≤ selector.toNat → selector.toNat ≤ 0x14 →
      exec (.queryTable [selector]) s = .next (s.post (.result .command 0x0C#8 .invalid false)))
    ∧ exec (.queryTable []) s = .next (s.post (.result .command 0x0C#8 .invalid false))

/-- A SEGMENT load outside HALTED: INVALID for an index above 63, an end below its start or a profile above 3;
IN_USE for a segment with held slots or the fill segment of a fill that is not STOPPED; else the entry takes all five
fields, VALID and EOL from bits 0 and 1 of the flags, and DONE is answered (R109, R184). -/
def Obligations.SegmentLoadReplacesItsEntry : Prop :=
  ∀ (s : State) (i p flags : Byte) (first last : BitVec 24), s.out.play ≠ .halted →
    let record := i :: (beBytes 3 first.toNat ++ beBytes 3 last.toNat ++ [p, flags])
    (64 ≤ i.toNat ∨ last.toNat < first.toNat ∨ 4 ≤ p.toNat →
      exec (.segmentLoad record) s = .next (s.post (.result .table 0x11#8 .invalid false)))
    ∧ ∀ (seg : SegmentIndex) (profile : ProfileIndex), i.toNat = seg.val → p.toNat = profile.val →
      first.toNat ≤ last.toNat →
      let used := (∃ x ∈ s.store.slots, x.segment = seg) ∨ (s.track.segment = seg ∧ s.fill.state ≠ .stopped)
      let e : PlayEntry := ⟨first.toNat, last.toNat, profile, flags.getLsbD 0, flags.getLsbD 1⟩
      (used → exec (.segmentLoad record) s = .next (s.post (.result .table 0x11#8 .inUse false)))
      ∧ (¬ used → exec (.segmentLoad record) s
          = .next ({ s with table := { s.table with playList := s.table.playList.set seg e } }.post
            (.result .table 0x11#8 .done false)))

/-- A PROFILE load outside HALTED: INVALID for an index above 3; else the profile takes the clamped fields, a running
fade that follows the current profile takes its new step where the load changes the current profile's fade code, a
REPAIR evaluation is made and DONE is answered (R131, R132, R185, R69). -/
def Obligations.ProfileLoadReplacesItsProfile : Prop :=
  ∀ (s : State) (i ramp long fade enable lead : Byte), s.out.play ≠ .halted →
    let record := [i, ramp, long, fade, enable, lead]
    (4 ≤ i.toNat → exec (.profileLoad record) s = .next (s.post (.result .table 0x12#8 .invalid false)))
    ∧ ∀ index : ProfileIndex, i.toNat = index.val →
      let action : LongAction := if long.toNat = 0 then .fade else if long.toNat = 1 then .mute else .drop
      let p : Profile := ⟨if 8 < ramp.toNat then 8 else ramp.toNat, action,
        if 6 < fade.toNat then 6 else fade.toNat, decide (enable.toNat ≠ 0),
        if lead.toNat < 16 then 16 else lead.toNat⟩
      let t := { s with table := { s.table with profiles := s.table.profiles.set index p } }
      let u := { t with gain := if s.gain.source = StepSource.currentProfile ∧ s.gain.fade ≠ s.gain.target
          ∧ t.currentProfile.fadeCode ≠ s.currentProfile.fadeCode
        then { s.gain with step := 32768 / (64 * 2 ^ t.currentProfile.fadeCode) } else s.gain }
      exec (.profileLoad record) s = .next (u.evaluateRepair.post (.result .table 0x12#8 .done false))

/-- A CONFIG load in IDLE or TRAY_HOLD replaces the whole record, its first four fields as received and the others
clamped; a retry count above the new limit is set to it; depth and marks are formed at once with an empty store, the
head at physical slot 0, and wait for the flush otherwise. In every other play state but HALTED it is answered BUSY
(R19, R90, R187, R188). -/
def Obligations.ConfigLoadReplacesTheRecord : Prop :=
  ∀ (s : State) (d1 d0 margin r1 r0 start window runIn retry skip abandon attempts code settle mask mode
      sensitivity : Byte),
    let record := [d1, d0, margin, r1, r0, start, window, runIn, retry, skip, abandon, attempts, code, settle, mask,
      mode, sensitivity]
    let clamp := fun (lo hi : Nat) (b : Byte) => if b.toNat < lo then lo else if hi < b.toNat then hi else b.toNat
    let c : ConfigRecord := {
      depth := 256 * d1.toNat + d0.toNat, highMargin := margin.toNat, refill := 256 * r1.toNat + r0.toNat
      start := start.toNat, window := clamp 1 255 window, runIn := clamp 0 63 runIn, retryLimit := clamp 1 15 retry
      skipAhead := clamp 1 255 skip, abandonLimit := clamp 1 7 abandon, attemptLimit := clamp 1 3 attempts
      watchdogCode := clamp 0 3 code, settle := settle.toNat, mask := clamp 0 7 mask
      positionMode := if mode.toNat = 0 then .off else if mode.toNat = 1 then .segment else .periodic
      sensitivity := if sensitivity.toNat = 0 then .edge else .edgeAndLevel }
    let t := { s with table := { s.table with config := c }
                      fill := { s.fill with retry := min s.fill.retry c.retryLimit } }
    (s.out.play = .idle ∨ s.out.play = .trayHold →
      (s.store.slots = [] → exec (.configLoad record) s
        = .next ({ t with store := { s.store with head := 0 }.form c.depth c }.post
            (.result .table 0x13#8 .done false)))
      ∧ (s.store.slots ≠ [] → exec (.configLoad record) s
        = .next ({ t with store := { s.store with pendingDepth := some c.depth } }.post
            (.result .table 0x13#8 .done false))))
    ∧ (s.out.play ≠ .idle → s.out.play ≠ .trayHold → s.out.play ≠ .halted →
      exec (.configLoad record) s = .next (s.post (.result .table 0x13#8 .busy false)))

/-- A RESUME load outside HALTED: INVALID for a segment above 63 or an offset above 479; else the record, its level
clamped, goes to the front of the Resume Table, one with the same fingerprint goes, and so does a ninth (R172,
R186). -/
def Obligations.ResumeLoadInsertsItsRecord : Prop :=
  ∀ (s : State) (f : Fingerprint) (signature : CheckWord) (segment level rep : Byte) (address : BitVec 24)
      (offset : BitVec 16), s.out.play ≠ .halted →
    let record := beBytes 4 f.toNat ++ beBytes 2 signature.toNat ++ [segment] ++ beBytes 3 address.toNat
      ++ beBytes 2 offset.toNat ++ [level, rep]
    (64 ≤ segment.toNat ∨ 480 ≤ offset.toNat →
      exec (.resumeLoad record) s = .next (s.post (.result .table 0x14#8 .invalid false)))
    ∧ ∀ seg : SegmentIndex, segment.toNat = seg.val → offset.toNat < 480 →
      let r : ResumeRecord := ⟨f, signature, ⟨seg, address.toNat, offset.toNat⟩,
        if 63 < level.toNat then 63 else level.toNat, decide (rep.toNat ≠ 0)⟩
      exec (.resumeLoad record) s
        = .next ({ s with tray := { s.tray with
            records := (r :: s.tray.records.filter (fun x => x.fingerprint ≠ f)).take 8 } }.post
          (.result .table 0x14#8 .done false))

/-! ### Resets (R25, R43, R61, R92, R108, R130, R133, R161, R178, R187, R189) -/

/-- A hard reset with the tray line at a level sets every field of every block to its hard reset value; the DRAM
keeps its bytes and the commands that wait go on waiting. The line's level is the command's (log 8); clear due marks
(log 4, 5), a clear afterCut (log 14), a lastPlayed of 0 (log 15) and a zero pair on the port (log 17) are the model's
choices. -/
def Obligations.HardResetSetsEveryField : Prop :=
  ∀ (s : State) (line : TrayLine), exec (.hardReset line) s = .next {
    link := { sending := none, seek := none, pause := false, noisy := 0 }
    track := { expected := 0, segment := 0, run := 0 }
    store := { slots := [], head := 0, depth := 2048, highWater := 2032, refill := 1024, start := 50
               pendingDepth := none, dram := s.store.dram }
    faults := []
    fill := { state := .stopped, tag := 0, outstanding := none, active := none, retry := 0, abandon := 0
              owed := none }
    timer := { count := 0, watchdog := 0, armed := false, expiryDue := false, settleDue := false
               positionDue := false }
    out := { play := .idle, cursor := .none, startOffset := 0, buffer := [], cursorSegment := none, plan := none
             samples := 0, afterCut := false, lastPlayed := 0, audio := Pair.zero }
    gain := { fade := 0, target := 0, step := 128, source := .currentProfile, requested := 63, applied := 63
              lastPair := Pair.zero }
    tray := { line := line, state := (match line with | .low => .opened | .high => .closed), pendingFlag := false
              edges := 0, fingerprint := none, records := [], saved := none }
    table := {
      playList := Vector.replicate 64 { first := 0, last := 0, profile := 0, valid := false, eol := false }
      profiles := Vector.replicate 4
        { rampLimit := 2, longAction := .fade, fadeCode := 2, repairEnable := true, repairLead := 64 }
      config := { depth := 2048, highMargin := 16, refill := 1024, start := 50, window := 64, runIn := 8
                  retryLimit := 4, skipAhead := 25, abandonLimit := 3, attemptLimit := 1, watchdogCode := 1
                  settle := 100, mask := 0, positionMode := .segment, sensitivity := .edge }
      stopIndex := none, repeatFlag := false, cueFlag := false }
    reports := []
    pending := s.pending }

/-- RESET makes a soft reset of the whole part in every play state, HALTED included: each block's soft reset values,
what the spec keeps kept, the Report Queue emptied, and the RESULT DONE the first entry after it. Of the model's own
fields, the due marks are cleared (log 4, 5), afterCut is cleared (log 14), lastPlayed is 0 (log 15), the port keeps its
pair (log 17) and a period end that is due stays due (log 24): the model's choices. -/
def Obligations.SoftResetSetsAndKeeps : Prop :=
  ∀ s : State, exec (.softReset []) s = .next ({ s with
    link := { s.link with seek := none, pause := false }
    track := { expected := 0, segment := 0, run := 0 }
    store := s.store.flush s.table.config
    faults := []
    fill := { state := .stopped, tag := s.fill.tag, outstanding := none, active := none, retry := 0, abandon := 0
              owed := none }
    timer := { count := s.timer.count, watchdog := 0, armed := false, expiryDue := false, settleDue := false
               positionDue := false }
    out := { play := .idle, cursor := .none, startOffset := 0, buffer := [], cursorSegment := none, plan := none
             samples := s.out.samples, afterCut := false, lastPlayed := 0, audio := s.out.audio }
    gain := { fade := 0, target := 0, step := 32768 / (64 * 2 ^ s.table.profiles[(0 : Fin 4)].fadeCode)
              source := .currentProfile, requested := s.gain.requested, applied := s.gain.applied
              lastPair := Pair.zero }
    tray := { s.tray with
      state := (match s.tray.line with | .low => .opened | .high => .closed), pendingFlag := false, edges := 0
      fingerprint := (match s.tray.line with | .low => none | .high => s.tray.fingerprint), saved := none }
    table := { s.table with cueFlag := false }
    reports := [] }.post (.result .command 0x0D#8 .done false))

/-! ### Arrivals (R34 to R38, R45 to R58, R74 to R78) -/

/-- The quality, the vote and the payload of an arrival: CLEAN and REPAIRED only for codes 00h and 01h with the check
passed, the address the three copies share or the two that agree, none when all differ, the payload as received. A
noisy vote raises the count, and in STOPPED, SEEKING and HALTED nothing else changes (R34 to R38, R45). -/
def Obligations.SectorsAreVotedAndChecked : Prop :=
  (∀ f : SectorFrame,
    ((arrivalOf f).quality = .clean ↔ crc16 f.payload = f.check ∧ f.quality = 0x00#8)
    ∧ ((arrivalOf f).quality = .repaired ↔ crc16 f.payload = f.check ∧ f.quality = 0x01#8)
    ∧ (arrivalOf f).quality ≠ .missing ∧ (arrivalOf f).payload = f.payload
    ∧ (∀ a : Nat, (arrivalOf f).address = some (a, .clean)
        ↔ f.copyA.toNat = a ∧ f.copyB.toNat = a ∧ f.copyC.toNat = a)
    ∧ (∀ a : Nat, (arrivalOf f).address = some (a, .noisy)
        ↔ [f.copyA, f.copyB, f.copyC].countP (fun c => c.toNat = a) = 2)
    ∧ ((arrivalOf f).address = none ↔ f.copyA ≠ f.copyB ∧ f.copyA ≠ f.copyC ∧ f.copyB ≠ f.copyC))
  ∧ ∀ (s : State) (f : SectorFrame), f.payload.length = 1920 →
    s.fill.state = .stopped ∨ s.fill.state = .seeking ∨ s.fill.state = .halted →
    exec (.sector f) s = .next (s.heard f)

/-- An arrival at E that the store takes, E not the segment's end: appended with its admission, E moved on by one; in
TRACKING at high-water the fill is PAUSED_FULL with its READ_PAUSE; in RELOCKING a noisy vote goes on and a clean one
completes the relock, pausing at high-water; the REPAIR evaluation last (R8, R47, R51, R57, R69, R75, R76, R85, R95;
order of the steps: log 11; place of the payload: log 9). At the segment's end: SegmentEndsAreCrossed. -/
def Obligations.SectorAtEIsAppended : Prop :=
  ∀ (s : State) (f : SectorFrame) (v : Vote), f.payload.length = 1920 →
    (arrivalOf f).address = some (s.track.expected, v) → s.store.slots.length < s.store.depth →
    (∀ x ∈ s.store.slots, x.address ≠ s.track.expected) →
    s.track.expected ≠ s.table.playList[s.track.segment].last → s.store.refill < s.store.highWater →
    let a := (s.heard f).appended (arrivalOf f).quality f.payload
    let moved := { a with track := { a.track with expected := s.track.expected + 1 } }
    let full := s.store.highWater ≤ s.store.slots.length + 1
    (s.fill.state = .tracking → ¬ full → exec (.sector f) s = .next moved.evaluateRepair)
    ∧ (s.fill.state = .tracking → full →
        exec (.sector f) s = .next (moved.outOfRecovery .pausedFull).pauseAsked.evaluateRepair)
    ∧ (s.fill.state = .pausedFull → exec (.sector f) s = .next moved.evaluateRepair)
    ∧ (s.fill.state = .relocking → v = .noisy → exec (.sector f) s = .next moved)
    ∧ (s.fill.state = .relocking → v = .clean → ¬ full →
        exec (.sector f) s = .next (moved.outOfRecovery .tracking).evaluateRepair)
    ∧ (s.fill.state = .relocking → v = .clean → full →
        exec (.sector f) s = .next (moved.outOfRecovery .pausedFull).pauseAsked.evaluateRepair)

/-- An arrival at E that the store refuses, as FULL or as HELD, leaves the store, E and the counts: a blocked front in
TRACKING and RELOCKING ends any recovery, requests READ_PAUSE and enters PAUSED_FULL, where an address held or an
occupancy above the refill level leaves no REFILL due; in PAUSED_FULL it is only discarded (R9, R48, R77, R85). -/
def Obligations.BlockedFrontPausesTheRead : Prop :=
  ∀ (s : State) (f : SectorFrame) (v : Vote), f.payload.length = 1920 →
    (arrivalOf f).address = some (s.track.expected, v) →
    let held := ∃ x ∈ s.store.slots, x.address = s.track.expected
    held ∨ (s.store.depth ≤ s.store.slots.length ∧ s.store.refill < s.store.slots.length) →
    (s.fill.state = .tracking ∨ s.fill.state = .relocking →
      exec (.sector f) s = .next ((s.heard f).outOfRecovery .pausedFull).pauseAsked.evaluateRepair)
    ∧ (s.fill.state = .pausedFull → exec (.sector f) s = .next (s.heard f).evaluateRepair)

/-- The choice of a crossing: END at the stop index; else the next entry where it is VALID and this one is not EOL; at
the list's end segment 0 by the repeat flag, or by the cue flag, which is used up, and END where neither is set or
entry 0 is not VALID. An append that ends the segment crosses: END with its READ_PAUSE, unless paused already; E and
the segment moved, a seek for SEGMENT where the start does not follow on, but not in PAUSED_FULL, nor over a recovery
of the same priority. A clean one in RELOCKING completes the relock first (R76); one that reaches high-water in TRACKING
enters PAUSED_FULL first and crosses there, the model's order (log 11). The payload is written at byte 1,920 × slot, the
model's place for the area (log 9) (R53 to R55, R66, R67, R76, R78, R85, R87). -/
def Obligations.SegmentEndsAreCrossed : Prop :=
  (∀ (t : Tables) (seg : SegmentIndex),
    (t.stopIndex = some seg → t.crossing seg = .ends)
    ∧ (t.stopIndex ≠ some seg →
      (∀ n : SegmentIndex, n.val = seg.val + 1 → t.playList[seg].eol = false → t.playList[n].valid = true →
        t.crossing seg = .goes n false)
      ∧ (seg.val = 63 ∨ t.playList[seg].eol = true
          ∨ (∃ n : SegmentIndex, n.val = seg.val + 1 ∧ t.playList[n].valid = false) →
        (t.repeatFlag = true → t.playList[(0 : SegmentIndex)].valid = true → t.crossing seg = .goes 0 false)
        ∧ (t.repeatFlag = false → t.cueFlag = true → t.playList[(0 : SegmentIndex)].valid = true →
            t.crossing seg = .goes 0 true)
        ∧ (t.repeatFlag = false → t.cueFlag = false → t.crossing seg = .ends)
        ∧ (t.playList[(0 : SegmentIndex)].valid = false → t.crossing seg = .ends))))
  ∧ ∀ (s : State) (f : SectorFrame) (v : Vote), f.payload.length = 1920 →
    (arrivalOf f).address = some (s.track.expected, v) → s.store.slots.length < s.store.depth →
    (∀ x ∈ s.store.slots, x.address ≠ s.track.expected) →
    s.track.expected = s.table.playList[s.track.segment].last →
    let a := (s.heard f).appended (arrivalOf f).quality f.payload
    let full := s.store.highWater ≤ s.store.slots.length + 1 ∧ s.store.refill < s.store.highWater
    (s.table.crossing s.track.segment = .ends →
      ((s.fill.state = .tracking ∧ (s.store.slots.length + 1 < s.store.highWater ∨ full))
          ∨ s.fill.state = .relocking →
        exec (.sector f) s = .next (a.outOfRecovery .ended).pauseAsked)
      ∧ (s.fill.state = .pausedFull → exec (.sector f) s = .next (a.outOfRecovery .ended)))
    ∧ (∀ (n : SegmentIndex) (usesCue : Bool), s.table.crossing s.track.segment = .goes n usesCue →
      let m := a.crossedTo n usesCue
      let follows := s.table.playList[n].first = s.track.expected + 1
      (s.fill.state = .tracking → s.store.slots.length + 1 < s.store.highWater →
        (follows → exec (.sector f) s = .next m.evaluateRepair)
        ∧ (¬ follows → exec (.sector f) s = .next (m.seekIssued .segment none 0)))
      ∧ (s.fill.state = .tracking → full →
        exec (.sector f) s = .next (m.outOfRecovery .pausedFull).pauseAsked.evaluateRepair)
      ∧ (s.fill.state = .relocking → v = .clean →
        (¬ follows → exec (.sector f) s = .next (m.seekIssued .segment none 0))
        ∧ (follows → s.store.slots.length + 1 < s.store.highWater →
          exec (.sector f) s = .next (m.outOfRecovery .tracking).evaluateRepair)
        ∧ (follows → full →
          exec (.sector f) s = .next (m.outOfRecovery .pausedFull).pauseAsked.evaluateRepair))
      ∧ (s.fill.state = .pausedFull → exec (.sector f) s = .next m.evaluateRepair)
      ∧ (s.fill.state = .relocking → v = .noisy → ∀ cause ∈ s.fill.active,
        (follows ∨ cause.reason = .start ∨ cause.reason = .segment ∨ cause.reason = .resume →
          exec (.sector f) s = .next m)
        ∧ (¬ follows → cause.reason = .skip ∨ cause.reason = .refill ∨ cause.reason = .repair →
          exec (.sector f) s = .next (m.seekIssued .segment none 0))))

/-- An overlap arrival in the range of the fill state, at the first slot that holds its address: a DAMAGED slot not held
for output takes a CLEAN or REPAIRED payload in place, its check word and quality with it, its Fault List entry goes,
and one REPAIRED report is created; in every other case the arrival is discarded (R13, R14, R49, R52, R74, R102,
R103). That the slot's area begins at byte 1,920 n is the model's choice (log 9). -/
def Obligations.OverlapRepairsADamagedSlot : Prop :=
  (∀ (s : State) (i : Nat), s.heldForOutput i = true
    ↔ (i = 0 ∧ (s.out.cursor = .finished ∨ ∃ off, s.out.cursor = .head off))
      ∨ ∃ p ∈ s.out.plan, i < p.left ∨ (p.kind = .ramp ∧ i = p.left))
  ∧ ∀ (s : State) (f : SectorFrame) (addr : Nat) (v : Vote), f.payload.length = 1920 →
    (arrivalOf f).address = some (addr, v) →
    (addr < s.track.expected ∧ s.track.expected - s.table.config.window ≤ addr
        ∧ (s.fill.state = .tracking ∨ s.fill.state = .pausedFull ∨ s.fill.state = .abandonWait
          ∨ s.fill.state = .ended ∨ (s.fill.state = .relocking ∧ ∀ cause ∈ s.fill.active, cause.reason ≠ .repair)))
      ∨ (s.fill.state = .relocking ∧ addr < s.track.expected
        ∧ ∃ cause ∈ s.fill.active, cause.reason = .repair ∧ cause.target ≤ addr)
      ∨ (s.fill.state = .ended ∧ addr = s.track.expected) →
    ((∀ x ∈ s.store.slots, x.address ≠ addr) → exec (.sector f) s = .next (s.heard f).evaluateRepair)
    ∧ ∀ (front back : List Slot) (x : Slot), s.store.slots = front ++ x :: back → x.address = addr →
      (∀ y ∈ front, y.address ≠ addr) →
      let i := front.length
      let slot := (s.store.head + i) % s.store.depth
      let q := (arrivalOf f).quality
      let attempts := if x.listed then (s.faults.find? (fun e => e.slot = slot)).map FaultEntry.attempts else none
      let h := s.heard f
      let repaired := { h with
        store := { h.store with
          slots := front ++ { x with quality := q, check := some (crc16 f.payload), listed := false } :: back
          dram := Memory.write h.store.dram (1920 * slot) f.payload }
        faults := if x.listed then h.faults.filter (fun e => e.slot ≠ slot) else h.faults }
      (x.quality = .damaged → q = .clean ∨ q = .repaired → s.heldForOutput i = false →
        exec (.sector f) s
          = .next (repaired.post (.repaired addr x.segment q attempts i)).evaluateRepair)
      ∧ (x.quality ≠ .damaged ∨ q = .damaged ∨ s.heldForOutput i = true →
        exec (.sector f) s = .next h.evaluateRepair)

/-- An arrival out of place: in TRACKING a resolved address outside the window raises one SKIP_DETECTED report, clears
the consecutive-append count and issues the SKIP seek; in RELOCKING an address outside the window, or none, is a failed
relock and takes a retry; elsewhere, and unresolved in TRACKING, the arrival is discarded (R46, R50 to R52, R58, R74,
R75, R79). -/
def Obligations.ArrivalsOutOfPlaceSeekAgain : Prop :=
  ∀ (s : State) (f : SectorFrame), f.payload.length = 1920 →
    let h := s.heard f
    let outside := fun (low : Nat) => ∀ (addr : Nat) (v : Vote), (arrivalOf f).address = some (addr, v) →
      s.track.expected < addr ∨ (addr < low ∧ addr ≠ s.track.expected)
    let low := s.track.expected - s.table.config.window
    (∀ (addr : Nat) (v : Vote), s.fill.state = .tracking → (arrivalOf f).address = some (addr, v) → outside low →
      let t := h.post (.skipDetected addr s.track.expected s.track.segment v)
      exec (.sector f) s = .next ({ t with track := { t.track with run := 0 } }.seekIssued .skip none 0))
    ∧ (s.fill.state = .tracking → (arrivalOf f).address = none → exec (.sector f) s = .next h.evaluateRepair)
    ∧ (s.fill.state = .pausedFull → outside low → exec (.sector f) s = .next h.evaluateRepair)
    ∧ (s.fill.state = .abandonWait → (∃ v, (arrivalOf f).address = some (s.track.expected, v)) ∨ outside low →
        exec (.sector f) s = .next h)
    ∧ (s.fill.state = .ended → outside low → exec (.sector f) s = .next h)
    ∧ (s.fill.state = .relocking →
      outside (match s.fill.active with
        | some cause => if cause.reason = .repair then cause.target else low
        | none => low) →
      exec (.sector f) s = .next h.retryRecovery)

/-! ### Recovery (R63 to R90) -/

/-- A REPAIR evaluation acts in TRACKING and PAUSED_FULL alone: the first entry of the list that is in the fill segment
below E, has attempts below the limit and lies at least the repair lead of its profile from the head counts one attempt
and has its seek issued; with none, nothing changes (R97, R98, R100). -/
def Obligations.RepairEvaluationTakesTheOldestEntry : Prop :=
  ∀ s : State,
    let eligible := fun (e : FaultEntry) => e.segment = s.track.segment ∧ e.address < s.track.expected
      ∧ e.attempts < s.table.config.attemptLimit
      ∧ s.table.profiles[s.table.playList[e.segment].profile].repairLead
          ≤ (e.slot + s.store.depth - s.store.head) % s.store.depth
    (s.fill.state ≠ .tracking → s.fill.state ≠ .pausedFull → s.evaluateRepair = s)
    ∧ ((∀ e ∈ s.faults, ¬ eligible e) → s.evaluateRepair = s)
    ∧ (s.fill.state = .tracking ∨ s.fill.state = .pausedFull →
      ∀ (front back : List FaultEntry) (e : FaultEntry), s.faults = front ++ e :: back →
        (∀ x ∈ front, ¬ eligible x) → eligible e →
        s.evaluateRepair = { s with faults := s.faults.map (fun (x : FaultEntry) =>
          if x.address = e.address ∧ x.segment = e.segment then { x with attempts := x.attempts + 1 } else x)
          }.seekIssued .repair (some ⟨e.address, e.segment⟩) 0)

/-- SEEK_DONE: an answer that matches the outstanding tag in SEEKING, no SEEK waiting unsent, starts the relock with a
cleared watchdog on LOCKED and takes a retry on FAILED; every other answer is stale and leaves one LATE_ANSWER report
of level 1, with the tag and status received, and nothing else (R39, R71, R72, R73). -/
def Obligations.SeekAnswersMatchOrAreStale : Prop :=
  ∀ (s : State) (tag : Tag),
    (s.link.seek = none → s.fill.state = .seeking → s.fill.outstanding = some tag →
      exec (.seekDone tag .locked) s
        = .next { s with fill := { s.fill with state := .relocking, outstanding := none }
                         timer := { s.timer with watchdog := 0 } }
      ∧ exec (.seekDone tag .failed) s = .next s.retryRecovery)
    ∧ (s.link.seek.isSome = true ∨ s.fill.state ≠ .seeking ∨ s.fill.outstanding ≠ some tag →
      ∀ status, exec (.seekDone tag status) s = .next (s.post (.lateAnswer tag status))
        ∧ (Report.lateAnswer tag status).level = 1)

/-- WATCHDOG_EXPIRY takes the carry that found the counter at 3: still 3 and armed, a retry (log 4). A retry clears the
consecutive-append count and, below the retry limit, issues the seek again with a raised retry count; at the limit a
REPAIR gives way to a REFILL, and any other cause skips ahead by a run of the configured length cut at the segment end,
appended at once where the store admits it and owed in ABANDON_WAIT otherwise (R79 to R81, R156, R158). -/
def Obligations.ExpiryRetriesOrAbandons : Prop :=
  (∀ s : State, s.timer.expiryDue = true →
    let t := { s with timer := { s.timer with expiryDue := false } }
    (s.timer.armed = false → exec .watchdogExpiry s = .next t)
    ∧ (s.timer.armed = true → s.timer.watchdog < 3 →
        exec .watchdogExpiry s = .next { t with timer := { t.timer with watchdog := s.timer.watchdog + 1 } })
    ∧ (s.timer.armed = true → 3 ≤ s.timer.watchdog →
        exec .watchdogExpiry s = .next { t with timer := { t.timer with watchdog := 0 } }.retryRecovery))
  ∧ ∀ (s : State) (cause : ActiveCause), s.fill.active = some cause →
    let r := { s with track := { s.track with run := 0 } }
    let e := s.track.expected
    let last := s.table.playList[s.track.segment].last
    let k := if last < e + s.table.config.skipAhead - 1 then last - e + 1 else s.table.config.skipAhead
    let room := s.store.slots.length + k ≤ s.store.depth ∧ ∀ x ∈ s.store.slots, x.address < e ∨ e + k ≤ x.address
    (s.fill.retry < s.table.config.retryLimit →
      s.retryRecovery = r.seekIssued cause.reason cause.fault (s.fill.retry + 1))
    ∧ (s.table.config.retryLimit ≤ s.fill.retry → cause.reason = .repair →
      s.retryRecovery = r.seekIssued .refill none 0)
    ∧ (s.table.config.retryLimit ≤ s.fill.retry → cause.reason ≠ .repair → e ≤ last →
      (room → s.retryRecovery = State.continueAbandon
        { r.outOfRecovery s.fill.state with store := { s.store with
          slots := s.store.slots ++ missingRun e k s.track.segment } } (e + k - 1))
      ∧ (¬ room → s.retryRecovery =
        { r.outOfRecovery .abandonWait with
          fill := ⟨.abandonWait, s.fill.tag, none, none, 0, s.fill.abandon, some ⟨e, k⟩⟩ }))

/-- PLACEHOLDER_RUN appends the owed run of MISSING slots as soon as the store admits it, and the abandon goes on: at
the segment end by the crossing, to END or to a SEGMENT seek, or a SKIP seek where the start follows on; else with a
raised abandon count, by a SKIP seek, or above the limit by a give-up: the tail marked, the crossing taken, one
SEGMENT_GIVEN_UP report, the SEGMENT seek. REFILL issues its seek where its test passes (R10, R11, R56, R82 to R84,
R86, log 29). -/
def Obligations.AbandonsGoOnAfterTheirRun : Prop :=
  (∀ (s : State) (run : OwedRun), s.fill.state = .abandonWait → s.fill.owed = some run →
    let room := s.store.slots.length + run.length ≤ s.store.depth
      ∧ ∀ x ∈ s.store.slots, x.address < run.first ∨ run.first + run.length ≤ x.address
    (room → exec .placeholderRun s = .next (State.continueAbandon
      { s.outOfRecovery .abandonWait with store := { s.store with
        slots := s.store.slots ++ missingRun run.first run.length s.track.segment } }
      (run.first + run.length - 1)))
    ∧ (¬ room → exec .placeholderRun s = .next s))
  ∧ (∀ (s : State) (last : Nat), s.fill.state ≠ .pausedFull →
    let r := { s with track := { s.track with run := 0 } }
    let ends := s.table.playList[s.track.segment].last
    (last = ends →
      (s.table.crossing s.track.segment = .ends →
        s.continueAbandon last
          = ({ r with track := { r.track with expected := last } }.outOfRecovery .ended).pauseAsked)
      ∧ ∀ (n : SegmentIndex) (usesCue : Bool), s.table.crossing s.track.segment = .goes n usesCue →
        s.continueAbandon last = (r.crossedTo n usesCue).seekIssued
          (if s.table.playList[n].first = last + 1 then .skip else .segment) none 0)
    ∧ (last ≠ ends →
      let t := { r with track := { r.track with expected := last + 1 }
                        fill := { r.fill with abandon := s.fill.abandon + 1 } }
      (s.fill.abandon + 1 ≤ s.table.config.abandonLimit → s.continueAbandon last = t.seekIssued .skip none 0)
      ∧ ∀ (front : List Slot) (tail : Slot), s.table.config.abandonLimit < s.fill.abandon + 1 →
        s.store.slots = front ++ [tail] →
        let m := { t with store := { t.store with slots := front ++ [{ tail with cutAfter := true }] } }
        (s.table.crossing s.track.segment = .ends →
          s.continueAbandon last
            = (m.outOfRecovery .ended).pauseAsked.post (.segmentGivenUp s.track.segment (last + 1) none))
        ∧ ∀ (n : SegmentIndex) (usesCue : Bool), s.table.crossing s.track.segment = .goes n usesCue →
          s.continueAbandon last
            = ((m.crossedTo n usesCue).post (.segmentGivenUp s.track.segment (last + 1) (some n))).seekIssued
                .segment none 0))
  ∧ ∀ s : State,
    let held := ∃ x ∈ s.store.slots, x.address = s.track.expected
    (s.fill.state = .pausedFull → s.store.slots.length ≤ s.store.refill → ¬ held →
      exec .refill s = .next (s.seekIssued .refill none 0))
    ∧ (s.fill.state ≠ .pausedFull ∨ s.store.refill < s.store.slots.length ∨ held → exec .refill s = .next s)

/-! ### The reverse transmitter, the timebase and the events of the play state -/

/-- The transmitter, free, takes a pending SEEK, else a pending READ_PAUSE, else the oldest report, whose TRAY form
carries the edge count and zeroes it; each frame is built in its layout, and what is not its turn does not begin. The
end of the frame frees the transmitter (R42, R163, R33). -/
def Obligations.TransmitterSendsInOrder : Prop :=
  ∀ s : State,
    (s.link.sending = none →
      (∀ r : SeekRequest, s.link.seek = some r →
        exec .seekSend s = .next { s with link := { s.link with
          seek := none
          sending := some (controlFrame 0x81#8 ([byteOf r.tag.toNat] ++ beBytes 3 r.target ++ [match r.reason with
            | .start => 0x01#8 | .segment => 0x02#8 | .resume => 0x03#8
            | .skip => 0x04#8 | .refill => 0x05#8 | .repair => 0x06#8])) } })
      ∧ (s.link.seek = none → s.link.pause = true →
        exec .readPauseSend s = .next { s with link := { s.link with
          pause := false, sending := some [0x82#8, 0x00#8, crc8 [0x82#8, 0x00#8]] } })
      ∧ (∀ (e : ReportEntry) (rest : List ReportEntry), s.link.seek = none → s.link.pause = false →
        s.reports = e :: rest →
        exec .reportSend s = .next { s with
          reports := rest
          link := { s.link with sending := some (e.frame s.tray.edges) }
          tray := { s.tray with edges := if e.report.isTray then 0 else s.tray.edges } })
      ∧ (s.link.seek = none → exec .seekSend s = .next s)
      ∧ (s.link.seek.isSome = true ∨ s.link.pause = false → exec .readPauseSend s = .next s)
      ∧ (s.link.seek.isSome = true ∨ s.link.pause = true ∨ s.reports = [] → exec .reportSend s = .next s))
    ∧ exec .reverseFrameEnd s = .next { s with link := { s.link with sending := none } }

/-- BLOCK_PERIOD_END, once 480 sample periods are counted, raises the timebase, moves the applied level code one step
toward the requested one and presents the carries: the armed watchdog counts one of its period, or has its expiry due
at 3, the settle comparator compares in SETTLING, and every 128th rise makes a periodic POSITION due. SETTLE_END takes
SETTLING to AWAIT_ID. PERIODIC_POSITION reports in the mode PERIODIC outside IDLE and HALTED: the position saved by a
tray interruption, else the cursor's, at 479 where a consume is held back (R112, R127, R136, R153, R156, R159; log 4,
5, 12, 24). -/
def Obligations.TimebaseEventsHaveTheirEffects : Prop :=
  (∀ s : State, 480 ≤ s.out.samples →
    let n := (s.timer.count + 1) % 65536
    let carry := s.timer.armed = true ∧ n % (8 * 2 ^ s.table.config.watchdogCode) = 0
    exec .blockPeriodEnd s = .next { s with
      out := { s.out with samples := 0 }
      gain := { s.gain with applied :=
        if s.gain.requested < s.gain.applied then s.gain.applied - 1
        else if s.gain.applied < s.gain.requested then s.gain.applied + 1 else s.gain.applied }
      timer := {
        count := n
        watchdog := if carry ∧ s.timer.watchdog < 3 then s.timer.watchdog + 1 else s.timer.watchdog
        armed := s.timer.armed
        expiryDue := s.timer.expiryDue || decide (carry ∧ 3 ≤ s.timer.watchdog)
        settleDue := decide (s.tray.state = .settling ∧ s.table.config.settle ≤ n)
        positionDue := s.timer.positionDue || decide (n % 128 = 0) } })
  ∧ (∀ s : State, s.timer.settleDue = true →
    let t := { s with timer := { s.timer with settleDue := false } }
    (s.tray.state = .settling → exec .settleEnd s = .next { t with tray := { s.tray with state := .awaitId } })
    ∧ (s.tray.state ≠ .settling → exec .settleEnd s = .next t))
  ∧ ∀ s : State, s.timer.positionDue = true →
    let t := { s with timer := { s.timer with positionDue := false } }
    let offset := match s.out.cursor with
      | .head off => off
      | .finished => 479
      | .none | .waiting | .next => s.out.startOffset
    (s.table.config.positionMode = .periodic → s.out.play ≠ .idle → s.out.play ≠ .halted →
      (∀ pos : Position, s.tray.saved = some pos →
        exec .periodicPosition s = .next (t.post (.position .periodic pos s.out.play)))
      ∧ (∀ (x : Slot) (rest : List Slot), s.tray.saved = none → s.store.slots = x :: rest →
        exec .periodicPosition s
          = .next (t.post (.position .periodic ⟨x.segment, x.address, offset⟩ s.out.play)))
      ∧ (s.tray.saved = none → s.store.slots = [] →
        exec .periodicPosition s
          = .next (t.post (.position .periodic ⟨s.track.segment, s.track.expected, offset⟩ s.out.play))))
    ∧ (s.table.config.positionMode ≠ .periodic ∨ s.out.play = .idle ∨ s.out.play = .halted →
      exec .periodicPosition s = .next t)

/-- PAUSED_ENTRY at g = 0 in PAUSING freezes the cursor and what it holds; START_TEST_PASS in PRIMING, and
STARVED_RECOVERY in STARVED at g = 0, begin PLAYING with a rising fade and the head slot next where the occupancy
reaches the start threshold, or is 1 or more in END, ABANDON_WAIT or PAUSED_FULL, and wait otherwise. The test sees the
state as a row has left it (log 34) (R116, R120, R122). -/
def Obligations.PlayBeginsAndPausesAtSilence : Prop :=
  ∀ s : State,
    let begun := { s.fadedInto .playing 32768 with out := { s.out with play := .playing, cursor := .next } }
    let enough := s.store.start ≤ s.store.slots.length
      ∨ (1 ≤ s.store.slots.length
        ∧ (s.fill.state = .ended ∨ s.fill.state = .abandonWait ∨ s.fill.state = .pausedFull))
    (s.out.play = .pausing → s.gain.fade = 0 → exec .pausedEntry s = .next (s.fadedInto .paused 0))
    ∧ (s.out.play = .priming → enough → exec .startTestPass s = .next begun)
    ∧ (s.out.play = .priming → ¬ enough → exec .startTestPass s = .next s)
    ∧ (s.out.play = .starved → s.gain.fade = 0 → enough → exec .starvedRecovery s = .next begun)
    ∧ (s.out.play = .starved → s.gain.fade = 0 → ¬ enough → exec .starvedRecovery s = .next s)

/-! ### The output (R12, R112 to R121, R133 to R151) -/

/-- DROPPED at g = 0 with a DROP in FADING while the cursor moves: its run's slots are consumed in play order, each the
head for no samples, and the plan ends. A long plan's end: the block boundary test with no slot held, a new head with a
bad one; a good one is read while the plan is in force and fades in from 0 at offset 0, or halts the part where its
check word fails (R126, R147, R148, R151). That a bad slot passes to the cursor alone, its run planned in the next sample
period, is the model's (log 13), and so are the DRAM's loss (log 10) and the places of the areas (log 9). -/
def Obligations.DroppedRunsLeaveTheStore : Prop :=
  (∀ (s : State) (upset : List (Nat × Byte)) (p : Plan), s.out.plan = some p → p.kind = .drop → p.phase = .fading → s.gain.fade = 0 →
    s.out.play = .playing ∨ s.out.play = .pausing ∨ s.out.play = .stopping
      ∨ (s.out.play = .trayHold ∧ s.tray.state = .fading) →
    let t := State.dropRun p.left (s.withLoss upset)
    exec (.dropped upset) s
      = .next (State.planEnd { t with out := { t.out with plan := some { p with phase := .dropped, left := 0 } } } .drop))
  ∧ (∀ (s : State) (n : Nat) (x : Slot) (rest : List Slot), s.store.slots = x :: rest →
    State.dropRun (n + 1) s = State.dropRun n ((s.segmentEntered x 0).consumedHead x rest) ∧ State.dropRun 0 s = s)
  ∧ ∀ (s : State) (kind : PlanKind),
    (s.store.slots = [] → s.planEnd kind = s.boundaryTested)
    ∧ ∀ (x : Slot) (rest : List Slot), s.store.slots = x :: rest →
      let bytes := Memory.readArea s.store.dram (s.store.head % s.store.depth)
      (x.quality = .damaged ∨ x.quality = .missing → s.planEnd kind = s.boundaryTested)
      ∧ (x.quality = .clean ∨ x.quality = .repaired → some (crc16 bytes) = x.check →
        let e := { s with out := { s.out with plan := none } }.segmentEntered x 0
        s.planEnd kind = { e with
          out := { e.out with buffer := pairsOf bytes, cursor := .head 0, afterCut := false }
          gain := { e.gain with
            fade := 0
            target := if s.out.play = .pausing ∨ s.out.play = .stopping ∨ s.out.play = .starved
              ∨ s.out.play = .trayHold then s.gain.target else 32768
            step := 32768 / (64 * 2 ^ (s.table.profileOf x.segment).fadeCode)
            source := .currentProfile } })
      ∧ (x.quality = .clean ∨ x.quality = .repaired → some (crc16 bytes) ≠ x.check →
        s.planEnd kind = State.post
          (State.haltedAsItStands { s with out := { s.out with cursor := .next } })
          (.halted ⟨x.segment, x.address, 0⟩ kind))

/-- A sample period first takes the events of the part that are due, row by row in the model's order (log 2), and then
sends one pair. With nothing due: a zero pair in IDLE, PRIMING, PAUSED, HALTED and in TRAY_HOLD after the save step; the
held pair, zero once g is 0, in STARVED and in the fading states while the cursor waits; else the pair the cursor hands
on. The DRAM has lost what the row says and nothing else (log 10) (R113, R133, R134, R138). -/
def Obligations.SamplePeriodSendsOnePair : Prop :=
  (∀ (s : State) (upset : List (Nat × Byte)),
    exec (.samplePeriod upset) s = .next (dueRows.foldl (fun t c => match exec c t with
      | .next u => u
      | .fault _ | .refused _ => t) (s.withLoss upset)).period)
  ∧ (∀ (s : State) (upset : List (Nat × Byte)), s.nothingDue →
    let u := s.withLoss upset
    exec (.samplePeriod upset) s = .next u.period
    ∧ (s.out.play = .idle ∨ s.out.play = .priming ∨ s.out.play = .paused ∨ s.out.play = .halted
        ∨ (s.out.play = .trayHold ∧ s.tray.state ≠ .fading) →
      exec (.samplePeriod upset) s = .next (u.sounded Pair.zero) ∧ (u.sounded Pair.zero).out.audio = Pair.zero)
    ∧ (s.out.play = .starved
        ∨ (s.out.cursor = .waiting ∧ s.out.plan = none ∧ (s.out.play = .pausing ∨ s.out.play = .stopping
          ∨ (s.out.play = .trayHold ∧ s.tray.state = .fading))) →
      exec (.samplePeriod upset) s
        = .next (u.sounded (if s.gain.fade = 0 then Pair.zero else s.gain.lastPair))))
  ∧ ∀ (d : List Host.Cell) (a x : Nat) (b : Byte), Memory.wf d →
    Memory.read (Memory.upset d [(a, b)]) x = (if a < 4194304 ∧ x = a then b else Memory.read d x)

/-- A sample period of a block with no plan in force hands on the buffer's pair at the cursor offset and moves the
cursor; at offset 480 − Fc of a cut slot, g above 0, it asks for the cut fade. After the pair at offset 479 the head is
consumed and the block boundary test is made, unless g has just reached 0 in a fading state, where the consume is held
back. The cut offset is that of F as it stands at the sample (R12, R113, R118, R122, R149, log 12, 33). -/
def Obligations.BlocksArePlayedPairByPair : Prop :=
  ∀ (s : State) (x : Slot) (rest : List Slot) (off : Nat),
    s.out.play = .playing ∨ s.out.play = .pausing ∨ s.out.play = .stopping
      ∨ (s.out.play = .trayHold ∧ s.tray.state = .fading) →
    s.out.plan = none → s.out.cursor = .head off → off < 480 → s.store.slots = x :: rest →
    let fc := min (64 * 2 ^ s.currentProfile.fadeCode) 256
    let cut := x.cutAfter = true ∧ off + fc = 480 ∧ 0 < s.gain.fade
    let t := { s with
      out := { s.out with cursor := if off < 479 then .head (off + 1) else .finished }
      gain := if cut then { s.gain with target := 0, step := 32768 / fc, source := StepSource.fixed } else s.gain }
    let u := t.sounded (s.out.buffer.getD off Pair.zero)
    (off < 479 → s.period = u)
    ∧ (off = 479 → s.out.play ≠ .playing → u.gain.fade = 0 → s.period = u)
    ∧ (off = 479 → s.out.play = .playing ∨ u.gain.fade ≠ 0 → s.period = (u.consumedHead x rest).boundaryTested)

/-- A sample period under a plan hands on the plan's pair: the RAMP's next pair, a FADE's anchor until it has faded out
and zero after, a MUTE's zero, each moving the cursor and the progress; a DROP's anchor with the cursor at rest. After
offset 479 the run's slot is consumed: the next run slot follows, or after the last one the RAMP ends at the boundary
test and a long plan at its plan end. The cut offset is that of F as it stands at the sample (R113, R143 to R149,
log 12, 13, 14, 33). -/
def Obligations.PlansGiveTheirPairs : Prop :=
  ∀ (s : State) (p : Plan) (x : Slot) (rest : List Slot) (off : Nat),
    s.out.play = .playing ∨ s.out.play = .pausing ∨ s.out.play = .stopping
      ∨ (s.out.play = .trayHold ∧ s.tray.state = .fading) →
    s.out.plan = some p → s.out.cursor = .head off → off < 480 → s.store.slots = x :: rest →
    (p.kind = .drop → s.period = s.sounded p.anchorA)
    ∧ (p.kind ≠ .drop →
      let fc := min (64 * 2 ^ s.currentProfile.fadeCode) 256
      let cut := x.cutAfter = true ∧ (off + fc = 480 ∨ (p.progress = 0 ∧ 480 < p.firstOffset + fc))
      let pair := match p.kind with
        | .ramp => Pair.ramp p.anchorA p.anchorB p.samples (p.progress + 1)
        | .fade => if p.fadedOut then Pair.zero else p.anchorA
        | .mute | .drop => Pair.zero
      let gain := if cut ∧ 0 < s.gain.fade
        then { s.gain with target := 0, step := 32768 / fc, source := StepSource.fixed } else s.gain
      let late := if cut then decide (480 < off + fc) else p.lateCut
      let moved := State.sounded { s with gain := gain } pair
      let q := { p with
        progress := p.progress + 1, lateCut := late
        fadedOut := p.fadedOut || decide (p.kind = .fade ∧ moved.gain.fade = 0) }
      let u := { moved with out := { moved.out with
        cursor := if off < 479 then .head (off + 1) else .finished, plan := some q } }
      (off < 479 → s.period = u)
      ∧ (off = 479 → s.out.play ≠ .playing → u.gain.fade = 0 → s.period = u)
      ∧ (off = 479 → s.out.play = .playing ∨ u.gain.fade ≠ 0 → s.period = u.blockConsumed x rest))

/-- A slot that becomes the head: the cursor segment is taken first, with its POSITION report; a slot of a run whose
plan is in force is not read; a good slot is read, verified and begins at the start offset, fading in where it follows a
cut; a bad slot, or one whose check word fails, begins a run (R117, R23, R126, R149; log 9, 10, 14, 19). -/
def Obligations.HeadsAreReadAndVerified : Prop :=
  (∀ (s : State) (upset : List (Nat × Byte)), s.nothingDue → s.out.cursor = .next → s.out.startOffset < 480 →
    s.out.play = .playing ∨ s.out.play = .pausing ∨ s.out.play = .stopping
      ∨ (s.out.play = .trayHold ∧ s.tray.state = .fading) →
    s.store.slots ≠ [] → exec (.samplePeriod upset) s = .next (s.withLoss upset).becomeHead.period)
  ∧ ∀ (s : State) (x : Slot) (rest : List Slot), s.store.slots = x :: rest →
    let off := s.out.startOffset
    let e := s.segmentEntered x off
    let bytes := Memory.readArea s.store.dram (s.store.head % s.store.depth)
    let a := if s.out.afterCut then { e with
        out := { e.out with afterCut := false }
        gain := { e.gain with
          target := if s.out.play = .pausing ∨ s.out.play = .stopping ∨ s.out.play = .starved
            ∨ s.out.play = .trayHold then s.gain.target else 32768
          step := 32768 / (64 * 2 ^ (s.table.profileOf x.segment).fadeCode)
          source := .currentProfile } }
      else e
    (s.out.plan.isSome = true → s.becomeHead = { e with out := { e.out with cursor := .head off } })
    ∧ (s.out.plan = none →
      (x.quality = .clean ∨ x.quality = .repaired → some (crc16 bytes) = x.check →
        s.becomeHead = { a with out := { a.out with buffer := pairsOf bytes, cursor := .head off } })
      ∧ (x.quality = .clean ∨ x.quality = .repaired → some (crc16 bytes) ≠ x.check →
        s.becomeHead = a.planRun x off .check)
      ∧ (x.quality = .damaged → s.becomeHead = a.planRun x off .damaged)
      ∧ (x.quality = .missing → s.becomeHead = a.planRun x off .missing))

/-- Run planning at the head: the run is the head and every DAMAGED or MISSING slot behind it; within the ramp limit,
with a follower and no cut, the follower is read and the plan is RAMP, or the part halts where its check word fails;
else the long action, FADE standing in for a DROP without a follower. Each plan takes its figures then, has its
CONCEALED report and asks for its fade-out or its mute (R128, R131, R135, R139 to R142, R145 to R147, R151). The anchor
is the recorded pair (log 31), a halt leaves no plan (log 32), and the areas and the model's own fields of the plan are
its choices (log 9, 14). -/
def Obligations.RunsArePlannedByTheirProfile : Prop :=
  ∀ (s : State) (x : Slot) (bad rest : List Slot) (off : Nat) (first : FirstSlot),
    s.store.slots = x :: (bad ++ rest) → (∀ y ∈ bad, y.quality = .damaged ∨ y.quality = .missing) →
    (∀ y ∈ rest.head?, y.quality = .clean ∨ y.quality = .repaired) →
    let r := bad.length + 1
    let samples := r * 480 - off
    let index := s.table.playList[x.segment].profile
    let profile := s.table.profiles[index]
    let plan := fun (kind : PlanKind) (b : Pair) (step : Option Nat) =>
      Plan.mk kind s.store.head off r samples index s.gain.lastPair b step 0 false .fading r false
    let adopted := fun (kind : PlanKind) (b : Pair) (step : Option Nat) (fallback : Bool) =>
      State.post { s with out := { s.out with plan := some (plan kind b step), cursor := .head off } }
        (.concealed kind r x.address x.segment first fallback)
    let faded := fun (t : State) (step : Nat) =>
      { t with gain := { t.gain with target := 0, step := step, source := StepSource.fixed } }
    let muted := fun (t : State) => { t with gain := { t.gain with fade := 0, target := 0 } }
    let fq := concealLength (64 * 2 ^ profile.fadeCode) samples
    let ramps := r ≤ profile.rampLimit ∧ rest ≠ [] ∧ ∀ y ∈ x :: bad, y.cutAfter = false
    (∀ y ∈ rest.head?, ramps →
      let bytes := Memory.readArea s.store.dram ((s.store.head + r) % s.store.depth)
      (some (crc16 bytes) = y.check →
        s.planRun x off first = adopted .ramp ((pairsOf bytes).headD Pair.zero) none false)
      ∧ (some (crc16 bytes) ≠ y.check →
        s.planRun x off first = State.post
          (State.haltedAsItStands { s with out := { s.out with cursor := .head off } })
          (.halted ⟨x.segment, x.address, off⟩ .ramp)))
    ∧ (¬ ramps →
      (profile.longAction = .mute → s.planRun x off first = muted (adopted .mute Pair.zero none false))
      ∧ (profile.longAction = .drop → rest ≠ [] →
        let step := 32768 / (64 * 2 ^ profile.fadeCode)
        s.planRun x off first = faded (adopted .drop Pair.zero (some step) false) step)
      ∧ (∀ fallback : Bool, (profile.longAction = .fade ∧ fallback = false)
          ∨ (profile.longAction = .drop ∧ rest = [] ∧ fallback = true) →
        (∀ q, fq = some q →
          s.planRun x off first = faded (adopted .fade Pair.zero (some (32768 / q)) fallback) (32768 / q))
        ∧ (fq = none → s.planRun x off first = muted (adopted .fade Pair.zero none fallback))))

/-! ### What every step keeps -/

/-- Every step of a lawful state leaves the Block Store within its depth, no address held twice, its marks in order and
its payload memory in its one form, and the Fault List naming held DAMAGED slots, in play order, at most 32 (R1, R4,
R5, R7, R18, R93, R94); and while the DRAM keeps its bytes, every payload area still reads back with its check word
(R22, R23). The payload memory and its one form (log 9) and the rows that may lose bytes (log 10) are the model's
choices. -/
def Obligations.StoreAndFaultLawsAreKept : Prop :=
  ∀ s t : State, Lawful s → step s = .next t →
    StoreLaw t ∧ FaultLaw t
    ∧ (PayloadLaw s → (∀ c ∈ s.pending.head?, c.keepsDram = true) → PayloadLaw t)

/-- Every step of a lawful state keeps play order, the fill's place behind the tail, and the recovery context in
agreement with the fill state and the watchdog (R6, R62 to R64, R81, R89, R155). -/
def Obligations.OrderAndFillLawsAreKept : Prop :=
  ∀ s t : State, Lawful s → step s = .next t → OrderLaw t ∧ FillLaw t

/-- Every step of a lawful state keeps the gains and codes within their ranges, the Report Queue within its places, the
tables and the Resume Table within their ranges, and the tray, the cursor and the plan in agreement with the play state
(R109, R111, R112, R122, R125, R131, R133, R136, R165, R168, R171, R172, R187, R190; log 12, 14). -/
def Obligations.OutputTrayAndTableLawsAreKept : Prop :=
  ∀ s t : State, Lawful s → step s = .next t →
    GainLaw t ∧ ReportLaw t ∧ TableLaw t ∧ ResumeLaw t ∧ TrayLaw t ∧ OutputLaw t

/-- State.reset, with the line high (log 8) and nothing listed in the DRAM (log 9), is lawful; and so is what HARD_RESET
answers, with the line at either level and whatever the DRAM, in its one form, has kept. No slot is held in either, so
every payload area reads back. -/
def Obligations.LawfulAtReset : Prop :=
  (Lawful State.reset ∧ PayloadLaw State.reset)
  ∧ ∀ (s : State) (line : TrayLine), Memory.wf s.store.dram →
    ∃ t, exec (.hardReset line) s = .next t ∧ Lawful t ∧ PayloadLaw t
end

