-- ==== Sys2Proof/Laws/Codec.lean ====
section
/-! SUPPORT. Numbers written as bytes, high byte first, and read back; the readers of indexes. -/

namespace Sys2Proof.Machine

/-- Two bytes of a 16-bit field and the number they are (spec/00 section 6). -/
theorem beBytes_two (a : BitVec 16) : ∃ x y, beBytes 2 a.toNat = [x, y] ∧ beNat [x, y] = a.toNat ∧ x ++ y = a := by
  refine ⟨_, _, rfl, ?_, ?_⟩
  · have := a.isLt
    simp only [beNat, List.foldl_cons, List.foldl_nil, BitVec.toNat_ofNat, Nat.reducePow]; omega
  · apply BitVec.eq_of_toNat_eq; have := a.isLt
    rw [BitVec.toNat_append, BitVec.toNat_ofNat, BitVec.toNat_ofNat, ← Nat.shiftLeft_add_eq_or_of_lt (by omega),
      Nat.shiftLeft_eq]; simp only [Nat.reducePow]; omega

/-- Three bytes of an address and the number they are. -/
theorem beBytes_three (a : BitVec 24) : ∃ x y z, beBytes 3 a.toNat = [x, y, z] ∧ beNat [x, y, z] = a.toNat := by
  refine ⟨_, _, _, rfl, ?_⟩
  have := a.isLt
  simp only [beNat, List.foldl_cons, List.foldl_nil, BitVec.toNat_ofNat, Nat.reducePow]; omega

/-- Four bytes of a fingerprint and the value they are. -/
theorem beBytes_four (f : BitVec 32) : ∃ x y z w, beBytes 4 f.toNat = [x, y, z, w] ∧ x ++ y ++ z ++ w = f := by
  refine ⟨_, _, _, _, rfl, ?_⟩
  apply BitVec.eq_of_toNat_eq; have := f.isLt
  simp only [BitVec.toNat_append, BitVec.toNat_ofNat]
  rw [← Nat.shiftLeft_add_eq_or_of_lt (by omega), ← Nat.shiftLeft_add_eq_or_of_lt (by omega),
    ← Nat.shiftLeft_add_eq_or_of_lt (by omega)]
  simp only [Nat.shiftLeft_eq, Nat.reducePow]; omega

theorem readFingerprint_beBytes (f : Fingerprint) : readFingerprint (beBytes 4 f.toNat) = some f := by
  obtain ⟨x, y, z, w, h, h2⟩ := beBytes_four f; simp [h, readFingerprint, h2]

theorem segmentOf_of_eq {b : Byte} {seg : SegmentIndex} (h : b.toNat = seg.val) : segmentOf b = some seg := by
  have := seg.isLt
  simp only [segmentOf]; rw [dif_pos (by omega)]; congr 1; ext; exact h

theorem segmentOf_none {b : Byte} (h : 64 ≤ b.toNat) : segmentOf b = none := by
  simp only [segmentOf]; rw [dif_neg (by omega)]

theorem profileIndexOf_of_eq {b : Byte} {p : ProfileIndex} (h : b.toNat = p.val) : profileIndexOf b = some p := by
  have := p.isLt
  simp only [profileIndexOf]; rw [dif_pos (by omega)]; congr 1; ext; exact h

theorem profileIndexOf_none {b : Byte} (h : 4 ≤ b.toNat) : profileIndexOf b = none := by
  simp only [profileIndexOf]; rw [dif_neg (by omega)]

end Sys2Proof.Machine
end

