-- ==== Sys2Proof/Laws/State.lean ====
section
/-! SUPPORT. What each shared operation leaves alone, field by field: every lemma holds by reducing both sides (or
after the one case split of a report's placement), so that no later proof unfolds a record update. -/

namespace Sys2Proof.Machine

/-! ### Reports -/

@[simp] theorem State.post_link (s : State) (r : Report) : (s.post r).link = s.link := by
  rw [State.post]; split <;> rfl
@[simp] theorem State.post_track (s : State) (r : Report) : (s.post r).track = s.track := by
  rw [State.post]; split <;> rfl
@[simp] theorem State.post_store (s : State) (r : Report) : (s.post r).store = s.store := by
  rw [State.post]; split <;> rfl
@[simp] theorem State.post_faults (s : State) (r : Report) : (s.post r).faults = s.faults := by
  rw [State.post]; split <;> rfl
@[simp] theorem State.post_fill (s : State) (r : Report) : (s.post r).fill = s.fill := by
  rw [State.post]; split <;> rfl
@[simp] theorem State.post_timer (s : State) (r : Report) : (s.post r).timer = s.timer := by
  rw [State.post]; split <;> rfl
@[simp] theorem State.post_out (s : State) (r : Report) : (s.post r).out = s.out := by
  rw [State.post]; split <;> rfl
@[simp] theorem State.post_gain (s : State) (r : Report) : (s.post r).gain = s.gain := by
  rw [State.post]; split <;> rfl
@[simp] theorem State.post_tray (s : State) (r : Report) : (s.post r).tray = s.tray := by
  rw [State.post]; split <;> rfl
@[simp] theorem State.post_table (s : State) (r : Report) : (s.post r).table = s.table := by
  rw [State.post]; split <;> rfl
@[simp] theorem State.post_pending (s : State) (r : Report) : (s.post r).pending = s.pending := by
  rw [State.post]; split <;> rfl

/-! ### The Gain Unit's requests: the gain alone, and with a play state the play state -/

@[simp] theorem State.enter_link (s : State) (p : PlayState) : (s.enter p).link = s.link := rfl
@[simp] theorem State.enter_track (s : State) (p : PlayState) : (s.enter p).track = s.track := rfl
@[simp] theorem State.enter_store (s : State) (p : PlayState) : (s.enter p).store = s.store := rfl
@[simp] theorem State.enter_faults (s : State) (p : PlayState) : (s.enter p).faults = s.faults := rfl
@[simp] theorem State.enter_fill (s : State) (p : PlayState) : (s.enter p).fill = s.fill := rfl
@[simp] theorem State.enter_timer (s : State) (p : PlayState) : (s.enter p).timer = s.timer := rfl
@[simp] theorem State.enter_tray (s : State) (p : PlayState) : (s.enter p).tray = s.tray := rfl
@[simp] theorem State.enter_table (s : State) (p : PlayState) : (s.enter p).table = s.table := rfl
@[simp] theorem State.enter_reports (s : State) (p : PlayState) : (s.enter p).reports = s.reports := rfl
@[simp] theorem State.enter_pending (s : State) (p : PlayState) : (s.enter p).pending = s.pending := rfl
@[simp] theorem State.enter_play (s : State) (p : PlayState) : (s.enter p).out.play = p := rfl
@[simp] theorem State.enter_cursor (s : State) (p : PlayState) : (s.enter p).out.cursor = s.out.cursor := rfl
@[simp] theorem State.enter_plan (s : State) (p : PlayState) : (s.enter p).out.plan = s.out.plan := rfl
@[simp] theorem State.enter_fade (s : State) (p : PlayState) : (s.enter p).gain.fade = s.gain.fade := rfl
@[simp] theorem State.enter_target (s : State) (p : PlayState) : (s.enter p).gain.target = p.fadeTarget := rfl
@[simp] theorem State.cutOff_fade (s : State) : s.cutOff.gain.fade = 0 := rfl
@[simp] theorem State.cutOff_target (s : State) : s.cutOff.gain.target = 0 := rfl
@[simp] theorem State.cutOff_out (s : State) : s.cutOff.out = s.out := rfl
@[simp] theorem State.cutOff_store (s : State) : s.cutOff.store = s.store := rfl
@[simp] theorem State.cutOff_fill (s : State) : s.cutOff.fill = s.fill := rfl
@[simp] theorem State.cutOff_tray (s : State) : s.cutOff.tray = s.tray := rfl
@[simp] theorem State.fixedFade_out (s : State) (n : Nat) : (s.fixedFade n).out = s.out := rfl
@[simp] theorem State.fixedFade_store (s : State) (n : Nat) : (s.fixedFade n).store = s.store := rfl
@[simp] theorem State.fixedFade_fill (s : State) (n : Nat) : (s.fixedFade n).fill = s.fill := rfl

/-! ### Seeks and the end of a recovery: the fill, the timer, the link and the Fault List alone -/

@[simp] theorem State.issue_store (s : State) (r : Reason) (f : Option FaultRef) (n : Nat) :
    (s.issue r f n).store = s.store := rfl
@[simp] theorem State.issue_track (s : State) (r : Reason) (f : Option FaultRef) (n : Nat) :
    (s.issue r f n).track = s.track := rfl
@[simp] theorem State.issue_out (s : State) (r : Reason) (f : Option FaultRef) (n : Nat) :
    (s.issue r f n).out = s.out := rfl
@[simp] theorem State.issue_table (s : State) (r : Reason) (f : Option FaultRef) (n : Nat) :
    (s.issue r f n).table = s.table := rfl
@[simp] theorem State.issue_state (s : State) (r : Reason) (f : Option FaultRef) (n : Nat) :
    (s.issue r f n).fill.state = .seeking := rfl
@[simp] theorem State.issueNew_store (s : State) (r : Reason) (f : Option FaultRef) :
    (s.issueNew r f).store = s.store := rfl
@[simp] theorem State.issueNew_track (s : State) (r : Reason) (f : Option FaultRef) :
    (s.issueNew r f).track = s.track := rfl
@[simp] theorem State.issueNew_out (s : State) (r : Reason) (f : Option FaultRef) :
    (s.issueNew r f).out = s.out := rfl
@[simp] theorem State.issueNew_table (s : State) (r : Reason) (f : Option FaultRef) :
    (s.issueNew r f).table = s.table := rfl
@[simp] theorem State.issueNew_state (s : State) (r : Reason) (f : Option FaultRef) :
    (s.issueNew r f).fill.state = .seeking := rfl
@[simp] theorem State.leaveRecovery_state (s : State) (f : FillState) : (s.leaveRecovery f).fill.state = f := rfl
@[simp] theorem State.leaveRecovery_store (s : State) (f : FillState) : (s.leaveRecovery f).store = s.store := rfl
@[simp] theorem State.leaveRecovery_track (s : State) (f : FillState) : (s.leaveRecovery f).track = s.track := rfl
@[simp] theorem State.leaveRecovery_out (s : State) (f : FillState) : (s.leaveRecovery f).out = s.out := rfl
@[simp] theorem State.leaveRecovery_faults (s : State) (f : FillState) : (s.leaveRecovery f).faults = s.faults := rfl
@[simp] theorem State.moveTo_store (s : State) (n : SegmentIndex) (c : Bool) : (s.moveTo n c).store = s.store := rfl
@[simp] theorem State.moveTo_out (s : State) (n : SegmentIndex) (c : Bool) : (s.moveTo n c).out = s.out := rfl
@[simp] theorem State.moveTo_state (s : State) (n : SegmentIndex) (c : Bool) :
    (s.moveTo n c).fill.state = s.fill.state := rfl

/-! ### Flush -/

@[simp] theorem State.flush_slots (s : State) : s.flush.store.slots = [] := rfl
@[simp] theorem State.flush_head (s : State) : s.flush.store.head = 0 := rfl
@[simp] theorem State.flush_dram (s : State) : s.flush.store.dram = s.store.dram := rfl
@[simp] theorem State.flush_faults (s : State) : s.flush.faults = [] := rfl
@[simp] theorem State.flush_fill (s : State) : s.flush.fill = s.fill := rfl
@[simp] theorem State.flush_plan (s : State) : s.flush.out.plan = none := rfl
@[simp] theorem State.flush_cursor (s : State) : s.flush.out.cursor = s.out.cursor := rfl
@[simp] theorem State.flush_play (s : State) : s.flush.out.play = s.out.play := rfl
@[simp] theorem State.flush_gain (s : State) : s.flush.gain = s.gain := rfl
@[simp] theorem State.flush_tray (s : State) : s.flush.tray = s.tray := rfl
@[simp] theorem State.flush_table (s : State) : s.flush.table = s.table := rfl

/-! ### The states the statements write out -/

@[simp] theorem State.heard_store (s : State) (f : SectorFrame) : (s.heard f).store = s.store := rfl
@[simp] theorem State.heard_track (s : State) (f : SectorFrame) : (s.heard f).track = s.track := rfl
@[simp] theorem State.heard_fill (s : State) (f : SectorFrame) : (s.heard f).fill = s.fill := rfl
@[simp] theorem State.heard_table (s : State) (f : SectorFrame) : (s.heard f).table = s.table := rfl
@[simp] theorem State.heard_faults (s : State) (f : SectorFrame) : (s.heard f).faults = s.faults := rfl
@[simp] theorem State.heard_out (s : State) (f : SectorFrame) : (s.heard f).out = s.out := rfl
@[simp] theorem State.heard_tray (s : State) (f : SectorFrame) : (s.heard f).tray = s.tray := rfl
@[simp] theorem State.heard_timer (s : State) (f : SectorFrame) : (s.heard f).timer = s.timer := rfl
@[simp] theorem State.heard_reports (s : State) (f : SectorFrame) : (s.heard f).reports = s.reports := rfl
@[simp] theorem State.segmentEntered_store (s : State) (x : Slot) (o : Nat) :
    (s.segmentEntered x o).store = s.store := by
  simp only [State.segmentEntered, State.post]; split_ifs <;> rfl
@[simp] theorem State.segmentEntered_table (s : State) (x : Slot) (o : Nat) :
    (s.segmentEntered x o).table = s.table := by
  simp only [State.segmentEntered, State.post]; split_ifs <;> rfl
@[simp] theorem State.segmentEntered_play (s : State) (x : Slot) (o : Nat) :
    (s.segmentEntered x o).out.play = s.out.play := by
  simp only [State.segmentEntered, State.post]; split_ifs <;> rfl
@[simp] theorem State.segmentEntered_plan (s : State) (x : Slot) (o : Nat) :
    (s.segmentEntered x o).out.plan = s.out.plan := by
  simp only [State.segmentEntered, State.post]; split_ifs <;> rfl
@[simp] theorem State.segmentEntered_afterCut (s : State) (x : Slot) (o : Nat) :
    (s.segmentEntered x o).out.afterCut = s.out.afterCut := by
  simp only [State.segmentEntered, State.post]; split_ifs <;> rfl
@[simp] theorem State.segmentEntered_target (s : State) (x : Slot) (o : Nat) :
    (s.segmentEntered x o).gain.target = s.gain.target := by
  simp only [State.segmentEntered, State.post]; split_ifs <;> rfl
theorem State.segmentEntered_segment (s : State) (x : Slot) (o : Nat) :
    (s.segmentEntered x o).out.cursorSegment = some x.segment := by
  simp only [State.segmentEntered, State.post]; split_ifs <;> first | assumption | rfl

end Sys2Proof.Machine
end

