-- ==== Sys2Proof/Laws/Store.lean ====
section
/-! SUPPORT. What the tests and the moves of the Block Store say in terms of the held slots. -/

namespace Sys2Proof.Machine

/-- The append test (R8). -/
theorem Store.takes_iff (st : Store) (a : Addr) :
    st.takes a = true ↔ st.slots.length < st.depth ∧ ∀ x ∈ st.slots, x.address ≠ a := by
  rw [Store.takes, Bool.and_eq_true, decide_eq_true_iff, Bool.not_eq_true', Store.holds, List.any_eq_false]
  simp only [beq_iff_eq, ne_eq]; rfl

/-- The test of a placeholder run (R10). -/
theorem Store.admitsRun_iff (st : Store) (a k : Nat) : st.admitsRun a k = true
    ↔ st.slots.length + k ≤ st.depth ∧ ∀ x ∈ st.slots, x.address < a ∨ a + k ≤ x.address := by
  rw [Store.admitsRun, Bool.and_eq_true, decide_eq_true_iff, List.all_eq_true]
  apply and_congr Iff.rfl
  apply forall_congr'; intro x; apply imp_congr Iff.rfl
  rw [Bool.not_eq_true', Bool.and_eq_false_iff, decide_eq_false_iff_not, decide_eq_false_iff_not]
  have : ∀ p q r : Nat, (¬ p ≤ q ∨ ¬ q < p + r) ↔ (q < p ∨ p + r ≤ q) := by intros; omega
  exact this _ _ _

/-- The address map finds nothing (R7). -/
theorem Store.lookup_eq_none (st : Store) (a : Nat) (h : ∀ x ∈ st.slots, x.address ≠ a) : st.lookup a = none := by
  rw [Store.lookup, List.findIdx?_eq_none_iff]; intro x hx; simpa using h x hx

/-- The address map finds the slot's position (R7). -/
theorem Store.lookup_eq_some (st : Store) (a : Nat) (front back : List Slot) (x : Slot)
    (h : st.slots = front ++ x :: back) (hx : x.address = a) (hf : ∀ y ∈ front, y.address ≠ a) :
    st.lookup a = some front.length := by
  rw [Store.lookup, h, List.findIdx?_append]
  have : front.findIdx? (fun s => s.address == a) = none := by
    rw [List.findIdx?_eq_none_iff]; intro y hy; simpa using hf y hy
  rw [this, List.findIdx?_cons]; simp [hx]

/-- A change of the last slot alone. -/
theorem modify_last (l : List Slot) (x : Slot) (f : Slot → Slot) :
    (l ++ [x]).modify l.length f = l ++ [f x] := by
  induction l with
  | nil => rfl
  | cons y l ih => simp [ih]

/-- The cut mark stands on the tail (R11). -/
theorem Store.markTail_append (st : Store) (front : List Slot) (x : Slot) (h : st.slots = front ++ [x]) :
    st.markTail = { st with slots := front ++ [{ x with cutAfter := true }] } := by
  have := modify_last front x (fun s => { s with cutAfter := true })
  simp only [Store.markTail, h, List.length_append, List.length_cons, List.length_nil, Nat.add_sub_cancel, this]

/-- A slot read and verified (R23). -/
theorem Store.readBlock_eq (st : Store) (i : Nat) (y : Slot) (h : st.slots[i]? = some y) :
    st.readBlock i = if some (crc16 (Memory.readArea st.dram ((st.head + i) % st.depth))) = y.check
      then some (pairsOf (Memory.readArea st.dram ((st.head + i) % st.depth))) else none := by
  simp only [Store.readBlock, h]; rfl

/-- The slots held for output (R13). -/
theorem State.heldForOutput_iff (s : State) (i : Nat) : s.heldForOutput i = true
    ↔ (i = 0 ∧ (s.out.cursor = .finished ∨ ∃ off, s.out.cursor = .head off))
      ∨ ∃ p ∈ s.out.plan, i < p.left ∨ (p.kind = .ramp ∧ i = p.left) := by
  simp only [State.heldForOutput, Bool.or_eq_true]
  apply or_congr
  · cases s.out.cursor <;> simp
  · cases s.out.plan <;> simp

end Sys2Proof.Machine
end

