-- ==== Sys2Proof/Laws/Fill.lean ====
section
/-! SUPPORT. What each operation of the fill does, said once in the words of Sys2Proof.Safety. -/

namespace Sys2Proof.Machine

/-- A SECTOR frame with its payload is an arrival (R35 to R38). -/
theorem State.countVote_eq_heard (s : State) (f : SectorFrame) :
    { s with link := s.link.countVote (arrivalOf f).address } = s.heard f := by
  simp only [State.heard, Link.countVote, arrivalOf, voteAddress]
  by_cases h1 : f.copyA = f.copyB <;> by_cases h2 : f.copyB = f.copyC <;> by_cases h3 : f.copyA = f.copyC <;>
    simp_all

theorem exec_sector {s : State} {f : SectorFrame} (h : f.payload.length = 1920) :
    exec (.sector f) s = .next ((s.heard f).arrive (arrivalOf f)) := by
  simp only [exec, execSector, Config.areaBytes, h, if_true, ← State.countVote_eq_heard]

/-- A seek issued with a retry count (R70). -/
theorem State.issue_eq_seekIssued (s : State) (r : Reason) (f : Option FaultRef) (n : Nat) :
    s.issue r f n = s.seekIssued r f n := by
  cases f <;> rfl

/-- A seek issued for a new cause that is no fault's (R70). -/
theorem State.issueNew_none (s : State) (r : Reason) : s.issueNew r none = s.seekIssued r none 0 := by
  simp [State.issueNew, State.issue_eq_seekIssued]

/-- A seek issued for a fault counts its attempt first (R70, step 5). -/
theorem State.issueNew_some (s : State) (f : FaultRef) : s.issueNew .repair (some f)
    = ({ s with faults := countAttempt s.faults f } : State).seekIssued .repair (some f) 0 := by
  rw [State.issueNew, State.issue_eq_seekIssued]

theorem State.leaveRecovery_eq (s : State) (f : FillState) : s.leaveRecovery f = s.outOfRecovery f := rfl
theorem State.requestPause_eq (s : State) : s.requestPause = s.pauseAsked := rfl
theorem State.moveTo_eq (s : State) (n : SegmentIndex) (c : Bool) : s.moveTo n c = s.crossedTo n c := rfl

/-- END entered (R87). -/
theorem State.enterEnd_of_pausedFull (s : State) (h : s.fill.state = .pausedFull) :
    s.enterEnd = s.outOfRecovery .ended := by
  rw [State.enterEnd, if_pos h]; rfl
theorem State.enterEnd_of_ne (s : State) (h : s.fill.state ≠ .pausedFull) :
    s.enterEnd = (s.outOfRecovery .ended).pauseAsked := by
  rw [State.enterEnd, if_neg h]; rfl

/-- Outside TRACKING and PAUSED_FULL no REPAIR is evaluated (R69). -/
theorem State.evaluateRepair_of_ne {s : State} (h1 : s.fill.state ≠ .tracking) (h2 : s.fill.state ≠ .pausedFull) :
    s.evaluateRepair = s := by
  simp [State.evaluateRepair, h1, h2]

/-- The candidate of a crossing (R53). -/
theorem Tables.candidate_eq_some (t : Tables) (seg n : SegmentIndex) (hn : n.val = seg.val + 1)
    (h1 : t.playList[seg].eol = false) (h2 : t.playList[n].valid = true) : t.candidate seg = some n := by
  have hl := n.isLt
  have he : (⟨seg.val + 1, by omega⟩ : SegmentIndex) = n := Fin.ext hn.symm
  rw [Tables.candidate, dif_pos (by omega)]
  simp only [he, Tables.entry]; rw [if_pos ⟨h1, h2⟩]

theorem Tables.candidate_eq_none (t : Tables) (seg : SegmentIndex)
    (h : seg.val = 63 ∨ t.playList[seg].eol = true
      ∨ (∃ n : SegmentIndex, n.val = seg.val + 1 ∧ t.playList[n].valid = false)) : t.candidate seg = none := by
  rw [Tables.candidate]
  split
  · rename_i hl
    rw [if_neg]
    rintro ⟨h1, h2⟩
    rcases h with h | h | ⟨n, hn, h⟩
    · omega
    · rw [Tables.entry] at h1; rw [h1] at h; cases h
    · have he : (⟨seg.val + 1, by omega⟩ : SegmentIndex) = n := Fin.ext hn.symm
      rw [he, Tables.entry] at h2; rw [h2] at h; cases h
  · rfl

/-! ### An append -/

/-- The state with a block pushed at E, its listed mark and the Fault List as they come out of admission. -/
def State.withBlock (s : State) (a : Arrival) (listed : Bool) (faults : List FaultEntry) : State :=
  { s with
    store := { s.store with
      slots := s.store.slots
        ++ [⟨s.track.expected, s.track.segment, a.quality, false, some (crc16 a.payload), listed⟩]
      dram := Memory.write s.store.dram (1920 * ((s.store.head + s.store.slots.length) % s.store.depth)) a.payload }
    faults := faults }

theorem State.pushBlock_eq (s : State) (a : Arrival) : s.pushBlock a = s.withBlock a false s.faults := rfl

theorem State.pushBlock_admitFault (s : State) (a : Arrival) (hd : a.quality = .damaged) :
    (s.pushBlock a).admitFault s.store.count = s.withBlock a (s.admits a.quality)
      (if s.admits a.quality = true
        then s.faults ++ [⟨(s.store.head + s.store.slots.length) % s.store.depth, s.track.expected,
          s.track.segment, 0⟩]
        else s.faults) := by
  have hx : (s.pushBlock a).store.slots[s.store.count]?
      = some ⟨s.track.expected, s.track.segment, a.quality, false, some (crc16 a.payload), false⟩ := by
    simp [State.pushBlock, Store.push, Store.count]
  by_cases hc : s.faults.length < 32 ∧ (s.table.profileOf s.track.segment).repairEnable = true
      ∧ (s.table.profileOf s.track.segment).repairLead ≤ s.store.slots.length
  · have hA : s.admits a.quality = true := by simp [State.admits, hd, hc]
    rw [State.admitFault, hx, hA, if_pos rfl]
    show (if s.faults.length < 32 ∧ (s.table.profileOf s.track.segment).repairEnable = true
      ∧ (s.table.profileOf s.track.segment).repairLead ≤ s.store.slots.length then _ else _) = _
    rw [if_pos hc]
    have := modify_last s.store.slots
      ⟨s.track.expected, s.track.segment, a.quality, false, some (crc16 a.payload), false⟩
      (fun x => { x with listed := true })
    simp only [State.pushBlock, Store.push, Store.count, this]; rfl
  · have hA : s.admits a.quality = false := by
      rw [← Bool.not_eq_true]; intro h; apply hc; simpa [State.admits, hd, and_assoc] using h
    rw [State.admitFault, hx, hA]
    show (if s.faults.length < 32 ∧ (s.table.profileOf s.track.segment).repairEnable = true
      ∧ (s.table.profileOf s.track.segment).repairLead ≤ s.store.slots.length then _ else _) = _
    rw [if_neg hc]; rfl

theorem State.withBlock_countAppend (s : State) (a : Arrival) (l : Bool) (fl : List FaultEntry)
    (hl : l = s.admits a.quality)
    (hf : fl = if s.admits a.quality = true
      then s.faults ++ [⟨(s.store.head + s.store.slots.length) % s.store.depth, s.track.expected,
        s.track.segment, 0⟩]
      else s.faults) :
    (s.withBlock a l fl).countAppend = s.appended a.quality a.payload := by
  subst hl hf
  by_cases hr : s.track.run < 255
  · simp only [State.countAppend, State.withBlock, State.appended, hr, if_true]
  · simp only [State.countAppend, State.withBlock, State.appended, hr, if_false]

/-- The push of a block and the steps that follow it: `appended`, then the move of E (R8, R47). -/
theorem State.pushBlock_appendSteps (s : State) (a : Arrival) :
    (s.pushBlock a).appendSteps s.store.count a.quality = (s.appended a.quality a.payload).moveOn := by
  have key : (if a.quality = .damaged then (s.pushBlock a).admitFault s.store.count else s.pushBlock a).countAppend
      = s.appended a.quality a.payload := by
    by_cases hd : a.quality = .damaged
    · rw [if_pos hd, State.pushBlock_admitFault s a hd]; exact State.withBlock_countAppend s a _ _ rfl rfl
    · have hA : s.admits a.quality = false := by simp [State.admits, hd]
      rw [if_neg hd, State.pushBlock_eq]; exact State.withBlock_countAppend s a _ _ hA.symm (by rw [hA]; rfl)
  simp only [State.appendSteps, key]

theorem State.moveOn_of_ne (s : State) (h : s.track.expected ≠ (s.table.playList[s.track.segment]).last) :
    s.moveOn = { s with track := { s.track with expected := s.track.expected + 1 } } :=
  if_neg h

theorem State.moveOn_of_eq (s : State) (h : s.track.expected = (s.table.playList[s.track.segment]).last) :
    s.moveOn = s.crossByAppend := if_pos h

/-- PAUSED_FULL entered with the block just pushed at E: E is held, so no REFILL follows (R86). -/
theorem State.pushBlock_enterPausedFull (s : State) (a : Arrival) :
    (s.pushBlock a).enterPausedFull = ((s.outOfRecovery .pausedFull).pauseAsked).pushBlock a := by
  have : (((s.pushBlock a).leaveRecovery .pausedFull).requestPause).refillTest = false := by
    simp [State.refillTest, State.pushBlock, Store.push, State.leaveRecovery, State.requestPause, Store.holds]
  simp only [State.enterPausedFull, State.refillIfDue, this]; rfl

/-- A retry never leaves the fill in TRACKING or PAUSED_FULL (R79 to R84). -/
theorem State.retryRecovery_state (s : State) (h : s.fill.state = .relocking) :
    s.retryRecovery.fill.state ≠ .tracking ∧ s.retryRecovery.fill.state ≠ .pausedFull := by
  have en : ∀ t : State, t.enterEnd.fill.state = .ended := by
    intro t; rw [State.enterEnd]; split <;> rfl
  have gu : ∀ t : State, t.giveUp.fill.state = .ended ∨ t.giveUp.fill.state = .seeking := by
    intro t; rw [State.giveUp]; split
    · left; rw [State.post_fill]; exact en _
    · right; rfl
  have ca : ∀ (t : State) (l : Nat), (t.continueAbandon l).fill.state = .ended
      ∨ (t.continueAbandon l).fill.state = .seeking := by
    intro t l; rw [State.continueAbandon]; simp only; split
    · split
      · left; exact en _
      · right; rfl
    · split
      · exact gu _
      · right; rfl
  have fin : s.retryRecovery.fill.state = .ended ∨ s.retryRecovery.fill.state = .seeking
      ∨ s.retryRecovery.fill.state = .relocking ∨ s.retryRecovery.fill.state = .abandonWait := by
    rw [State.retryRecovery]; simp only
    split
    · split
      · right; left; rfl
      · rw [State.abandonRecovery]
        split
        · right; left; rfl
        · rw [State.abandonAhead]; simp only; split
          · rcases ca _ _ with h | h
            · left; exact h
            · right; left; exact h
          · right; right; right; rfl
    · right; right; left; exact h
  rcases fin with h | h | h | h <;> rw [h] <;> simp

end Sys2Proof.Machine
end

