-- ==== Sys2Proof/Laws/Memory.lean ====
section
/-! SUPPORT. The payload memory: every operation keeps its one canonical form, and a byte reads as it was last
written. -/

namespace Sys2Proof.Machine

/-- A cell of `cells` holds one of the bytes, and none that reads as an unlisted byte does. -/
theorem Memory.mem_cells {bytes : List Byte} {base : Nat} {c : Host.Cell} (h : c ∈ Memory.cells base bytes) :
    base ≤ c.1 ∧ c.1 < base + bytes.length ∧ c.2 ≠ Memory.unlisted := by
  induction bytes generalizing base with
  | nil => cases h
  | cons b bs ih =>
    rw [Memory.cells] at h
    split at h
    · have := ih h
      refine ⟨by omega, ?_, this.2.2⟩
      simp only [List.length_cons]; omega
    · rename_i hb
      rcases List.mem_cons.1 h with rfl | h
      · exact ⟨Nat.le_refl _, by simp only [List.length_cons]; omega, hb⟩
      · have := ih h
        refine ⟨by omega, ?_, this.2.2⟩
        simp only [List.length_cons]; omega

theorem Memory.pairwise_cells (base : Nat) (bytes : List Byte) :
    (Memory.cells base bytes).Pairwise (fun x y => x.1 < y.1) := by
  induction bytes generalizing base with
  | nil => exact List.Pairwise.nil
  | cons b bs ih =>
    rw [Memory.cells]
    split
    · exact ih _
    · refine List.pairwise_cons.2 ⟨fun c hc => ?_, ih _⟩
      have := (Memory.mem_cells hc).1
      simp only; omega

/-- A write inside the device keeps the canonical form. -/
theorem Memory.write_wf {d : List Host.Cell} (h : Memory.wf d) {base : Nat} {bytes : List Byte}
    (hb : base + bytes.length ≤ Config.dramBytes) : Memory.wf (Memory.write d base bytes) := by
  obtain ⟨h1, h2⟩ := h
  refine ⟨?_, ?_⟩
  · rw [Memory.write, List.pairwise_append, List.pairwise_append]
    refine ⟨⟨h1.filter _, Memory.pairwise_cells _ _, ?_⟩, h1.filter _, ?_⟩
    · intro x hx y hy
      have a := of_decide_eq_true (List.mem_filter.1 hx).2
      have b := (Memory.mem_cells hy).1
      omega
    · intro x hx y hy
      have b := of_decide_eq_true (List.mem_filter.1 hy).2
      rcases List.mem_append.1 hx with hx | hx
      · have a := of_decide_eq_true (List.mem_filter.1 hx).2
        omega
      · have a := (Memory.mem_cells hx).2.1
        omega
  · intro c hc
    rw [Memory.write] at hc
    rcases List.mem_append.1 hc with hc | hc
    · rcases List.mem_append.1 hc with hc | hc
      · exact h2 c (List.mem_filter.1 hc).1
      · have a := Memory.mem_cells hc
        exact ⟨by omega, a.2.2⟩
    · exact h2 c (List.mem_filter.1 hc).1

/-- What the DRAM loses by itself keeps the canonical form. -/
theorem Memory.upset_wf {d : List Host.Cell} (h : Memory.wf d) (changes : List (Nat × Byte)) :
    Memory.wf (Memory.upset d changes) := by
  induction changes generalizing d with
  | nil => exact h
  | cons c cs ih =>
    show Memory.wf (Memory.upset _ cs)
    apply ih
    show Memory.wf (if c.1 < Config.dramBytes then Memory.write d c.1 [c.2] else d)
    split
    · exact Memory.write_wf h (by simp only [List.length_cons, List.length_nil]; omega)
    · exact h

/-- The memory after reset has the canonical form. -/
theorem Memory.reset_wf : Memory.wf State.reset.store.dram := ⟨List.Pairwise.nil, fun _ h => by cases h⟩

/-! ### Reads -/

theorem Memory.find_cells (base a : Nat) (bytes : List Byte) :
    ((Memory.cells base bytes).find? (fun c => c.1 == a)).map (fun c => c.2)
      = if base ≤ a ∧ a < base + bytes.length ∧ bytes.getD (a - base) Memory.unlisted ≠ Memory.unlisted
        then some (bytes.getD (a - base) Memory.unlisted) else none := by
  induction bytes generalizing base with
  | nil => simp [Memory.cells]
  | cons b bs ih =>
    rw [Memory.cells]
    by_cases ha : a = base
    · subst ha
      have hn : (Memory.cells (a + 1) bs).find? (fun c => c.1 == a) = none := by
        rw [List.find?_eq_none]; intro c hc
        have := (Memory.mem_cells hc).1
        simp only [beq_iff_eq]; omega
      split
      · rename_i hb; rw [hn]; simp [hb]
      · rename_i hb; simp [hb]
    · have hne : ((base, b).1 == a) = false := by simp only [beq_eq_false_iff_ne]; exact fun h => ha h.symm
      have key : ((if b = Memory.unlisted then Memory.cells (base + 1) bs
          else (base, b) :: Memory.cells (base + 1) bs).find? (fun c => c.1 == a))
          = (Memory.cells (base + 1) bs).find? (fun c => c.1 == a) := by
        split
        · rfl
        · rw [List.find?_cons, hne]
      rw [key, ih]
      by_cases hl : base ≤ a
      · have e : a - base = (a - (base + 1)) + 1 := by omega
        rw [e, List.getD_cons_succ, List.length_cons]
        refine if_congr ?_ rfl rfl
        constructor
        · rintro ⟨x, y, z⟩; exact ⟨by omega, by omega, z⟩
        · rintro ⟨x, y, z⟩; exact ⟨by omega, by omega, z⟩
      · rw [if_neg (by omega), if_neg (by omega)]

theorem Memory.find_filter (d : List Host.Cell) (a : Nat) (q : Nat → Bool) :
    (d.filter (fun c => q c.1)).find? (fun c => c.1 == a)
      = if q a then d.find? (fun c => c.1 == a) else none := by
  induction d with
  | nil => simp
  | cons c d ih =>
    rw [List.filter_cons]
    by_cases h : c.1 = a
    · by_cases hq : q a
      · simp [h, hq]
      · simp only [h, hq, Bool.false_eq_true, if_false]; rw [ih]; simp [hq]
    · split
      · simp [h, ih]
      · simp [h, ih]

/-- Reading back after a write: the bytes written, and every other byte as it was. -/
theorem Memory.read_write (d : List Host.Cell) (base a : Nat) (bytes : List Byte) :
    Memory.read (Memory.write d base bytes) a
      = if base ≤ a ∧ a < base + bytes.length then bytes.getD (a - base) Memory.unlisted else Memory.read d a := by
  have f1 := Memory.find_filter d a (fun n => decide (n < base))
  have f2 := Memory.find_filter d a (fun n => decide (base + bytes.length ≤ n))
  have f3 := Memory.find_cells base a bytes
  simp only [Memory.read, Memory.write, List.find?_append, f1, f2]
  by_cases h : base ≤ a ∧ a < base + bytes.length
  · rw [if_pos h]
    have n1 : (decide (a < base)) = false := decide_eq_false (by omega)
    have n2 : (decide (base + bytes.length ≤ a)) = false := decide_eq_false (by omega)
    simp only [n1, n2, Bool.false_eq_true, if_false, Option.none_or, Option.or_none, f3]
    split
    · rfl
    · rename_i hz
      have : bytes.getD (a - base) Memory.unlisted = Memory.unlisted := by
        by_contra hc; exact hz ⟨h.1, h.2, hc⟩
      rw [this]; rfl
  · rw [if_neg h]
    rw [if_neg (fun hh => h ⟨hh.1, hh.2.1⟩)] at f3
    have f4 : (Memory.cells base bytes).find? (fun c => c.1 == a) = none := Option.map_eq_none_iff.1 f3
    rw [f4]
    by_cases h1 : a < base
    · have n2 : (decide (base + bytes.length ≤ a)) = false := decide_eq_false (by omega)
      simp [h1, n2]
    · have n2 : (decide (base + bytes.length ≤ a)) = true := decide_eq_true (by omega)
      simp [h1, n2]

/-- The bytes read in one pass are the bytes read one by one, in a memory of canonical form. -/
theorem Memory.bytesFrom_eq (n a : Nat) (cs : List Host.Cell) (hp : cs.Pairwise (fun x y => x.1 < y.1))
    (ha : ∀ c ∈ cs, a ≤ c.1) : Memory.bytesFrom a n cs = (List.range' a n).map (Memory.read cs) := by
  induction n generalizing a cs with
  | zero => cases cs <;> rfl
  | succ n ih =>
    cases cs with
    | nil =>
      rw [Memory.bytesFrom, ih (a + 1) [] hp (by simp)]; rfl
    | cons c cs =>
      obtain ⟨h1, h2⟩ := List.pairwise_cons.1 hp
      rw [Memory.bytesFrom, List.range'_succ, List.map_cons]
      split
      · rename_i hc
        rw [ih (a + 1) cs h2 (fun x hx => by have := h1 x hx; omega)]
        refine congrArg₂ _ ?_ (List.map_congr_left ?_)
        · simp [Memory.read, hc]
        · intro x hx
          have hx := List.mem_range'.1 hx
          have : ¬ c.1 = x := by obtain ⟨i, _, rfl⟩ := hx; omega
          simp [Memory.read, this]
      · rename_i hc
        rw [ih (a + 1) (c :: cs) hp (fun x hx => by
          rcases List.mem_cons.1 hx with rfl | hx
          · have := ha x (by simp); omega
          · have := h1 x hx; have := ha c (by simp); omega)]
        refine congrArg₂ _ ?_ rfl
        have : cs.find? (fun x => x.1 == a) = none := by
          rw [List.find?_eq_none]; intro x hx
          have := h1 x hx; have := ha c (by simp); simp only [beq_iff_eq]; omega
        simp [Memory.read, hc, this]

/-- The bytes of a slot's area are the bytes at its addresses (R3). -/
theorem Memory.readArea_eq (d : List Host.Cell) (slot : Nat) (h : d.Pairwise (fun x y => x.1 < y.1)) :
    Memory.readArea d slot = (List.range' (1920 * slot) 1920).map (Memory.read d) := by
  rw [Memory.readArea, Memory.bytesFrom_eq _ _ _ (h.filter _)
    (fun c hc => of_decide_eq_true (List.mem_filter.1 hc).2)]
  refine List.map_congr_left ?_
  intro x hx
  obtain ⟨i, _, rfl⟩ := List.mem_range'.1 hx
  have f := Memory.find_filter d (areaBase slot + i) (fun n => decide (areaBase slot ≤ n))
  simp only [Memory.read]
  rw [Nat.one_mul, f]
  simp

end Sys2Proof.Machine
end

