-- ==== Sys2Proof/Laws/Output.lean ====
section
/-! SUPPORT. What each operation of the output and the tray does, said once in the words of Sys2Proof.Safety. -/

namespace Sys2Proof.Machine

/-- A play state entered with its state fade (R111, R135). -/
theorem State.enter_eq (s : State) (p : PlayState) : s.enter p = s.fadedInto p p.fadeTarget := by
  simp [State.enter, State.fadedInto, State.fadingTo, Profile.fadeStep, stepOfLength, fadeLength, Config.unity]

theorem Tray.leaveFading_eq (tr : Tray) : tr.leaveFading = tr.leftFading := by
  obtain ⟨l, st, _, _, _, _, _⟩ := tr; cases st <;> cases l <;> rfl

/-- The save step (R168). -/
theorem State.save_eq (s : State) : s.save = s.savedAt s.savePosition := by
  simp only [State.save, State.savedAt, State.flush, State.fillStop, State.leaveRecovery, State.requestPause,
    Timer.disarm]
  cases s.tray.line <;> rfl

/-- A fill started afresh (R68, R115, R176). -/
theorem State.startAt_eq (s : State) (pos : Position) (r : Reason) : s.startAt pos r = s.startedAt pos r := by
  simp only [State.startAt, State.startedAt, State.issueNew, State.issue, State.dropRecovery, State.leaveRecovery,
    State.flush, State.cutOff, State.requestSeek, State.seekTarget, ConfigRecord.runInForce, Timer.arm, Timer.disarm]

/-- A resume: a fill started afresh, and the state fade of PRIMING with the step of profile 0 (R114, R135, R176). -/
theorem State.resumeFrom_eq (s : State) (r : ResumeRecord) :
    let u := { s with
      gain := { s.gain with requested := r.level, applied := r.level }
      table := { s.table with repeatFlag := r.repeatFlag } }
    let v := u.startedAt r.position .resume
    s.resumeFrom r = { v with
      gain := { v.gain with
        step := 32768 / (64 * 2 ^ s.table.profiles[(0 : ProfileIndex)].fadeCode), source := .currentProfile }
      tray := { s.tray with records := useRecord s.tray.records r, saved := none } } := by
  intro u v
  simp only [State.resumeFrom, State.startAt_eq, State.enter_eq]; rfl

/-- The start of PLAYING (R116, R120). -/
theorem State.beginPlaying_eq (s : State) : s.beginPlaying
    = { s.fadedInto .playing 32768 with out := { s.out with play := .playing, cursor := .next } } := by
  simp only [State.beginPlaying, State.enter_eq]; rfl

/-- The start test (R116). -/
theorem State.startTest_iff (s : State) : s.startTest = true ↔ s.store.start ≤ s.store.slots.length
      ∨ (1 ≤ s.store.slots.length
        ∧ (s.fill.state = .ended ∨ s.fill.state = .abandonWait ∨ s.fill.state = .pausedFull)) := by
  rw [State.startTest, Bool.or_eq_true, Bool.and_eq_true, Bool.or_eq_true, Bool.or_eq_true, decide_eq_true_iff,
    decide_eq_true_iff, beq_iff_eq, beq_iff_eq, beq_iff_eq, or_assoc]
  rfl

/-- HALTED entered (R128). -/
theorem State.halt_eq (s : State) (pos : Position) (k : PlanKind) :
    s.halt pos k = s.haltedAsItStands.post (.halted pos k) := by
  simp only [State.halt, Tray.leaveFading_eq]; rfl

/-- The block boundary test (R118, R119, R121). -/
theorem State.boundaryTest_eq (s : State) : s.boundaryTest = s.boundaryTested := by
  rw [State.boundaryTest, State.boundaryTested]
  rcases hs : s.store.slots with _ | ⟨x, r⟩
  · simp only [ne_eq, not_true_eq_false, if_false]
    by_cases hp : s.out.play = .playing
    · simp only [hp, not_true_eq_false, if_true, if_false]
      by_cases hf : s.fill.state = .ended
      · simp only [hf, if_true, not_true_eq_false, if_false]; rfl
      · simp only [hf, if_false, not_false_eq_true, if_true]
        simp only [State.starve, State.enter_eq, State.waitingPosition, State.fadedInto, hs]; rfl
    · simp only [hp, if_false, not_false_eq_true, if_true]
  · simp

/-- The target of a raise (R114). -/
theorem State.raisedTarget_eq (s : State) : s.raisedTarget
    = if s.out.play = .pausing ∨ s.out.play = .stopping ∨ s.out.play = .starved ∨ s.out.play = .trayHold
      then s.gain.target else 32768 := by
  simp only [State.raisedTarget]; cases s.out.play <;> rfl

/-- The cursor segment of a slot that becomes the head (R114, R117, R126). -/
theorem State.enterSegment_eq (s : State) (x : Slot) (o : Nat) : s.enterSegment x o = s.segmentEntered x o := by
  simp only [State.enterSegment, State.segmentEntered]
  by_cases h : s.out.cursorSegment = some x.segment
  · rw [if_pos h, if_pos h]
  · rw [if_neg h, if_neg h]
    simp only [State.refreshStep]
    by_cases hg : s.gain.source = .currentProfile
    · simp only [hg, if_true, State.currentProfile, Profile.fadeStep, stepOfLength, fadeLength, Config.unity]
    · simp only [hg, if_false]

/-- A consume of the head (R12). -/
theorem State.consume_eq (s : State) (x : Slot) (r : List Slot) (h : s.store.slots = x :: r) :
    s.consume = s.consumedHead x r := by
  have e1 : (fun e : FaultEntry => e.slot != s.store.head) = (fun e => decide (e.slot ≠ s.store.head)) := by
    funext e; by_cases h : e.slot = s.store.head <;> simp [h]
  simp only [State.consume, h, State.consumedHead, Store.dropHead, removeFault, e1, List.tail_cons]

/-- The play states in which the cursor moves (R111, R113). -/
theorem State.moving_iff (s : State) : s.moving = true
    ↔ s.out.play = .playing ∨ s.out.play = .pausing ∨ s.out.play = .stopping
      ∨ (s.out.play = .trayHold ∧ s.tray.state = .fading) := by
  simp only [State.moving, State.beforeSave, Bool.or_eq_true, Bool.and_eq_true, beq_iff_eq, or_assoc]

/-- The consume of the head and what follows it (R118, R144 to R146, R149). -/
theorem State.boundary_eq (s : State) (x : Slot) (r : List Slot) (h : s.store.slots = x :: r) :
    s.boundary = s.blockConsumed x r := by
  rw [State.boundary, State.blockConsumed]
  cases hp : s.out.plan with
  | none => simp only [State.consume_eq s x r h, State.boundaryTest_eq]
  | some p =>
    have hs : (s.lateCut p).store.slots = x :: r := by simp only [State.lateCut]; split <;> exact h
    have hl : (if p.lateCut = true ∧ p.left = p.runLength
        then { s with gain := { s.gain with fade := 0 } } else s) = s.lateCut p := by
      simp only [State.lateCut, Bool.and_eq_true, beq_iff_eq]
    simp only [hl]
    rw [State.consume_eq _ x r hs]
    generalize (s.lateCut p).consumedHead x r = c
    by_cases h1 : 1 < p.left
    · rw [if_pos h1, if_pos h1]
    · rw [if_neg h1, if_neg h1]
      cases p.kind
      · rw [if_pos rfl]
        simp only [State.boundaryTest_eq, State.boundaryTested]
        cases c.store.slots
        · dsimp only; split_ifs <;> rfl
        · rfl
      all_goals rw [if_neg (by decide)]

/-- The consume a completed fade held back (R122). -/
theorem State.takeHeldConsume_eq (s : State) (x : Slot) (r : List Slot) (h : s.store.slots = x :: r) :
    s.takeHeldConsume = if s.out.cursor = .finished then s.blockConsumed x r else s := by
  rw [State.takeHeldConsume, State.boundary_eq s x r h]

theorem cursorAfter_eq (off : Nat) : cursorAfter off = if off < 479 then .head (off + 1) else .finished := by
  rw [cursorAfter, Config.pairsPerBlock]; split_ifs <;> first | rfl | omega

theorem State.upset_nil (s : State) : s.upset [] = s := rfl

/-- Whatever is due is taken row by row (log 2). -/
theorem State.takeDue_eq (s : State) : s.takeDue = dueRows.foldl (fun t c => match exec c t with
    | .next u => u
    | .fault _ | .refused _ => t) s := by
  simp only [dueRows, List.foldl_cons, List.foldl_nil, exec, execBlockPeriodEnd, execWatchdogExpiry, execSettleEnd,
    execPeriodicPosition, execDropped, execPausedEntry, execStopCompletion, execSaveStep, execRefill,
    execPlaceholderRun, execStartTestPass, execStarvedRecovery, State.upset_nil, State.takeDue]

theorem State.upset_eq (s : State) (upset : List (Nat × Byte)) : s.upset upset = s.withLoss upset := rfl

/-- A PROFILE load (R132). -/
theorem State.loadProfile_eq (s : State) (i : ProfileIndex) (p : Profile) :
    let t := { s with table := { s.table with profiles := s.table.profiles.set i p } }
    s.loadProfile i p = { t with gain :=
      if s.gain.source = StepSource.currentProfile ∧ s.gain.fade ≠ s.gain.target
          ∧ t.currentProfile.fadeCode ≠ s.currentProfile.fadeCode
      then { s.gain with step := 32768 / (64 * 2 ^ t.currentProfile.fadeCode) } else s.gain } := by
  intro t
  have ht : ({ s with table := s.table.setProfile i p } : State) = t := rfl
  simp only [State.loadProfile, ht, State.refreshStep, Profile.fadeStep, stepOfLength, fadeLength, Config.unity]
  split_ifs <;> first | rfl | (exfalso; tauto)

end Sys2Proof.Machine
end

