-- ==== Sys2Proof/Tests/Slice0.lean ====
section
/-! SUPPORT. The model's own tests: the checks of WellFormed refuse an ill-formed operand each, the spec's worked
examples come out, each command does on a small state what the spec says, and every statement with hypotheses has
values that meet them (the `witness_` theorems, one for each statement, clause by clause). -/

open Sys2Proof Sys2Proof.Machine

namespace Sys2Proof.Tests

/-! ### WellFormed refuses -/

theorem test_wf_unit_that_passes : (Instr.refusedForwardUnit [0x03#8, 0x00#8, crc8 [0x03#8, 0x00#8]]).wellFormed = false := by
  decide +kernel
theorem test_wf_short_payload : (Instr.sector ⟨0, 0x00#8, [0x01#8], 0, 0, 0⟩).wellFormed = false := by decide
theorem test_wf_long_params : (Instr.play (List.replicate 60 0x00#8)).wellFormed = false := by decide
theorem test_wf_long_record : (Instr.configLoad (List.replicate 60 0x00#8)).wellFormed = false := by decide
theorem test_wf_long_status_query : (Instr.queryStatus (List.replicate 59 0x00#8)).wellFormed = false := by decide
theorem test_wf_status_as_table_query : (Instr.queryTable [0x00#8]).wellFormed = false := by decide
theorem test_wf_known_code : (Instr.unknownCommandCode [0x0D#8]).wellFormed = false := by decide
theorem test_wf_known_format : (Instr.unknownTableFormat [0x14#8]).wellFormed = false := by decide
theorem test_wf_outside_dram : (Instr.samplePeriod [(4194304, 0x01#8)]).wellFormed = false := by decide
theorem test_wf_inside_dram : (Instr.dropped [(4194303, 0x01#8)]).wellFormed = true := by decide
theorem test_wf_longest_params : (Instr.play (List.replicate 59 0x00#8)).wellFormed = true := by decide

/-! ### The spec's worked examples -/

/-- R21: the nine digits, and no bytes. -/
theorem test_crc16 : crc16 [0x31#8, 0x32#8, 0x33#8, 0x34#8, 0x35#8, 0x36#8, 0x37#8, 0x38#8, 0x39#8] = 0x29B1#16
    ∧ crc16 [] = 0xFFFF#16 := by decide +kernel
/-- R28: after 82h, and after 82h, 00h. -/
theorem test_crc8 : crc8 [0x82#8] = 0x18#8 ∧ crc8 [0x82#8, 0x00#8] = 0xFA#8 := by decide
/-- R28, R33: a READ_PAUSE frame. -/
theorem test_readPauseFrame : readPauseFrame = [0x82#8, 0x00#8, 0xFA#8] := by decide +kernel
/-- R4: the table. -/
theorem test_depths : [2048, 1000, 511, 100, 3000].map formDepth = [2048, 768, 256, 256, 2048] := by decide
/-- R18: the table, as (high-water, refill, start). -/
theorem test_marks : (formHighWater 2048 16, formRefill 2032 1024, formStart 2032 50) = (2032, 1024, 50)
    ∧ (formHighWater 512 16, formRefill 496 1024, formStart 496 50) = (496, 488, 50)
    ∧ (formHighWater 256 100, formRefill 156 200, formStart 156 200) = (156, 148, 156)
    ∧ (formHighWater 256 255, formRefill 1 16, formStart 1 8) = (1, 0, 1)
    ∧ (formHighWater 768 4, formRefill 760 2000, formStart 760 300) = (760, 752, 255) := by decide
/-- R36: the examples. -/
theorem test_votes : voteAddress 5000 5000 5000 = some (5000, .clean) ∧ voteAddress 7040 7000 7000 = some (7000, .noisy)
    ∧ voteAddress 5000 5001 5000 = some (5000, .noisy) ∧ voteAddress 5000 5001 5002 = none := by decide
/-- R34: the table. -/
theorem test_qualities : [0x00#8, 0x01#8, 0x02#8, 0x77#8].map (fun b => decodeQuality b true)
      = [.clean, .repaired, .damaged, .damaged]
    ∧ [0x00#8, 0x01#8, 0x02#8, 0x77#8].map (fun b => decodeQuality b false)
      = [.damaged, .damaged, .damaged, .damaged] := by decide
/-- R134: the lengths and the steps. -/
theorem test_fades : (List.range 7).map fadeLength = [64, 128, 256, 512, 1024, 2048, 4096]
    ∧ (List.range 7).map (fun c => stepOfLength (fadeLength c)) = [512, 256, 128, 64, 32, 16, 8] := by decide
/-- R137: the table. -/
theorem test_levels : [0, 1, 10, 24, 31, 62, 63].map levelGain = [32768, 30048, 13777, 4096, 2233, 152, 0] := by decide
/-- R138: the table, and g = 16,384 under code 10. -/
theorem test_gains : scaleSample (-32768) 32768 = -32768 ∧ scaleSample 32767 32768 = 32767
    ∧ combinedGain 32768 32768 = 32768 ∧ combinedGain 16384 13777 = 6889 := by decide
/-- R143: the last ramped sample over the greatest distance, up and down. -/
theorem test_ramp : rampSample (-32768) 32767 480 480 = 32631 ∧ rampSample 32767 (-32768) 480 480 = -32632 := by decide
/-- R145: the table. -/
theorem test_concealLengths : concealLength 256 480 = some 256 ∧ concealLength 1024 480 = some 256
    ∧ concealLength 1024 960 = some 512 ∧ concealLength 4096 4320 = some 4096 ∧ concealLength 256 50 = none := by decide
/-- R149: the table, as the cut offset 480 − Fc and the step. -/
theorem test_cuts : [0, 2, 6].map (fun c => (480 - cutLength c, stepOfLength (cutLength c)))
    = [(416, 512), (224, 128), (224, 128)] := by decide

/-! ### Small states -/

/-- The state after reset with segment 0 as addresses 100 to 199, the last of the list, and segment 1 as 200 to 299. -/
def base : State :=
  { State.reset with table := { State.reset.table with
      playList := (State.reset.table.playList.set 0 ⟨100, 199, 0, true, true⟩).set 1 ⟨200, 299, 1, true, true⟩ } }

/-- The state with a play state. -/
def playing (p : PlayState) (s : State := base) : State := { s with out := { s.out with play := p } }

/-- The state with a fill state, at E. -/
def filling (f : FillState) (e : Addr := 150) (s : State := base) : State :=
  { s with fill := { s.fill with state := f }, track := { s.track with expected := e } }

/-- The state with held slots. -/
def holding (l : List Slot) (s : State := base) : State := { s with store := { s.store with slots := l } }

/-- The state with g at a value. -/
def atGain (g : Nat) (s : State := base) : State := { s with gain := { s.gain with fade := g } }

/-- The state with a cursor. -/
def atCursor (c : Cursor) (s : State := base) : State := { s with out := { s.out with cursor := c } }

/-- The state with a tray state and a line. -/
def trayAt (t : TrayState) (l : TrayLine) (s : State := base) : State :=
  { s with tray := { s.tray with state := t, line := l } }

/-- The state with a plan. -/
def planned (p : Plan) (s : State := base) : State := { s with out := { s.out with plan := some p } }

/-- The check word of 1,920 zero bytes, which is what an area nothing has written reads as. -/
def zeroCheck : CheckWord := 0x22D2#16

/-- A held slot of segment 0. -/
def slot (a : Addr) (q : Quality := .clean) (listed : Bool := false) : Slot :=
  ⟨a, 0, q, false, if q = .missing then none else some zeroCheck, listed⟩

/-- A plan of one slot. -/
def plan (k : PlanKind) (step : Option Nat := none) : Plan :=
  ⟨k, 0, 0, 1, 480, 0, Pair.zero, Pair.zero, step, 0, false, .fading, 1, false⟩

/-- A SECTOR frame of zeros with three address copies. -/
def frame (a b c : BitVec 24) (q : Byte := 0x00#8) : SectorFrame := ⟨a, q, List.replicate 1920 0x00#8, b, c, zeroCheck⟩

/-- The next state of a command, the state itself where it has none. -/
def after (c : Instr) (s : State) : State :=
  match exec c s with
  | .next t => t
  | _ => s

/-- The reports a command leaves. -/
def reportsAfter (c : Instr) (s : State) : List Report := (after c s).reports.map ReportEntry.report

set_option maxRecDepth 1000000 in
theorem test_zeroCheck : crc16 (List.replicate 1920 0x00#8) = zeroCheck := by decide +kernel
theorem test_frame_payload (a b c : BitVec 24) (q : Byte) : (frame a b c q).payload.length = 1920 := List.length_replicate

/-! ### One step of each kind of command -/

theorem test_play_clamps : (after (.play [0x00#8, 0x00#8, 0x00#8, 0xFF#8]) base).track.expected = 199
    ∧ (after (.play [0x00#8]) base).link.seek = some ⟨1, 92, .start⟩ := by decide
theorem test_play_refused : reportsAfter (.play [0x02#8]) base = [.result .command 0x01#8 .invalid false]
    ∧ reportsAfter (.play [0x00#8]) (trayAt .opened .low) = [.result .command 0x01#8 .tray false] := by decide
theorem test_pause : (after (.pause []) (playing .starved)).out.play = .pausing := by decide
/-- R122: the consume that a completed fade held back comes with RESUME. -/
theorem test_resume_consumes : (after (.resume []) (atCursor .finished (playing .paused (holding [slot 100, slot 101])))).store.slots
      = [slot 101]
    ∧ (after (.resume []) (atCursor .finished (playing .paused (holding [slot 100, slot 101])))).out.cursor = .next := by decide
theorem test_resume_busy : reportsAfter (.resume []) base = [.result .command 0x03#8 .busy false] := by decide
theorem test_stop_from_paused : (after (.stop []) (playing .paused)).out.play = .idle
    ∧ (after (.stop []) (playing .paused)).link.pause = true := by decide
theorem test_setLevel_clamps : (after (.setLevel [0xFF#8]) base).gain.requested = 63 := by decide
theorem test_setStop : (after (.setStop [0x3F#8]) base).table.stopIndex = some 63
    ∧ reportsAfter (.setStop [0x40#8]) base = [.result .command 0x06#8 .invalid false] := by decide
theorem test_setRepeat : reportsAfter (.setRepeat [0x02#8]) base = [.result .command 0x07#8 .invalid false] := by decide
theorem test_cue_in_tray_hold : reportsAfter (.cue []) (playing .trayHold) = [.result .command 0x08#8 .tray false] := by
  decide
theorem test_identify : (after (.identify [0xDE#8, 0xAD#8, 0xBE#8, 0xEF#8]) base).tray.fingerprint
    = some 0xDEADBEEF#32 := by decide
/-- R135: the transition of a resume to PRIMING takes the step of profile 0 and follows it. -/
theorem test_resume_step :
    let s := trayAt .awaitId .high (playing .trayHold)
    let t := { s with gain := { s.gain with step := 512, source := .fixed } }
    let g := (t.resumeFrom ⟨7, 0, ⟨0, 150, 12⟩, 63, false⟩).gain
    g.step = 128 ∧ g.source = .currentProfile ∧ g.fade = 0 ∧ g.target = 0 := by decide
theorem test_ackTray : (after (.ackTray []) { base with tray := { base.tray with pendingFlag := true } }).tray.pendingFlag
    = false := by decide
theorem test_queryStatus : reportsAfter (.queryStatus []) base
    = [.status ⟨.idle, .stopped, .closed, 0, 0, 0, 2048, 0, 0, 0, 63, none, 0⟩] := by decide
theorem test_queryTable : reportsAfter (.queryTable [0x12#8, 0x03#8]) base
    = [.tableReply 0x12#8 0x03#8 (some [0x03#8, 0x02#8, 0x00#8, 0x02#8, 0x01#8, 0x40#8])] := by decide
theorem test_segmentLoad : ((after (.segmentLoad [0x05#8, 0x00#8, 0x01#8, 0x00#8, 0x00#8, 0x02#8, 0x00#8, 0x03#8,
    0x02#8]) base).table.entry 5) = ⟨256, 512, 3, false, true⟩ := by decide
theorem test_profileLoad : ((after (.profileLoad [0x01#8, 0x09#8, 0x07#8, 0x09#8, 0x00#8, 0x00#8]) base).table.profiles[1])
    = ⟨8, .drop, 6, false, 16⟩ := by decide
/-- R132: a running state fade keeps its step unless the current profile's fade code changes. -/
theorem test_profileLoad_step :
    (after (.profileLoad [0x01#8, 0x02#8, 0x00#8, 0x06#8, 0x01#8, 0x40#8])
      (playing .starved { atGain 500 with gain := { (atGain 500).gain with step := 77 } })).gain.step = 77
    ∧ (after (.profileLoad [0x00#8, 0x02#8, 0x00#8, 0x06#8, 0x01#8, 0x40#8])
      (playing .starved { atGain 500 with gain := { (atGain 500).gain with step := 77 } })).gain.step = 8 := by decide
theorem test_configLoad : (after (.configLoad [0x03#8, 0xE8#8, 0x04#8, 0x07#8, 0xD0#8, 0xFF#8, 0x00#8, 0xFF#8, 0x00#8,
    0x00#8, 0x00#8, 0x00#8, 0xFF#8, 0x64#8, 0xFF#8, 0xFF#8, 0xFF#8]) base).store
    = ⟨[], 0, 768, 760, 752, 255, none, []⟩ := by decide +kernel
theorem test_resumeLoad : (after (.resumeLoad [0x01#8, 0x02#8, 0x03#8, 0x04#8, 0xAA#8, 0x55#8, 0x02#8, 0x00#8, 0x01#8,
    0x02#8, 0x01#8, 0xDF#8, 0x7F#8, 0x01#8]) base).tray.records
    = [⟨0x01020304#32, 0xAA55#16, ⟨2, 258, 479⟩, 63, true⟩] := by decide
theorem test_hardReset_low : (after (.hardReset .low) base).tray.state = .opened := by decide
theorem test_softReset : reportsAfter (.softReset []) (playing .halted) = [.result .command 0x0D#8 .done false] := by decide
theorem test_refused_unit : reportsAfter (.refusedForwardUnit []) base = [.frameCheck 0x00#8 .kind] := by decide
set_option maxRecDepth 1000000 in
theorem test_sector_at_e : (after (.sector (frame 150 150 151)) (filling .tracking)).store.slots = [slot 150]
    ∧ (after (.sector (frame 150 150 151)) (filling .tracking)).track.expected = 151
    ∧ (after (.sector (frame 150 150 151)) (filling .tracking)).link.noisy = 1 := by decide +kernel
theorem test_seekDone_stale : reportsAfter (.seekDone 7 .locked) base = [.lateAnswer 7 .locked] := by decide
theorem test_openEdge_idle : (after .openEdge base).tray = ⟨.low, .opened, true, 1, none, [], none⟩ := by decide
theorem test_closeEdge : (after .closeEdge (trayAt .opened .low)).tray.state = .settling := by decide
theorem test_samplePeriod_idle : (after (.samplePeriod []) base).out.audio = Pair.zero
    ∧ (after (.samplePeriod []) base).out.samples = 1 := by decide
theorem test_watchdogExpiry : (after .watchdogExpiry { base with
    timer := ⟨8, 2, true, true, false, false⟩ }).timer.watchdog = 3 := by decide
theorem test_startTestPass : (after .startTestPass (playing .priming (holding [slot 100] (filling .ended)))).out.play
    = .playing := by decide
theorem test_placeholderRun : ((after .placeholderRun { filling .abandonWait with
    fill := { (filling .abandonWait).fill with owed := some ⟨150, 2⟩ } }).store.slots)
    = [slot 150 .missing, slot 151 .missing] := by decide
theorem test_seekSend : (after .seekSend { base with link := { base.link with seek := some ⟨1, 12372, .skip⟩ } }).link.sending
    = some [0x81#8, 0x05#8, 0x01#8, 0x00#8, 0x30#8, 0x54#8, 0x04#8,
        crc8 [0x81#8, 0x05#8, 0x01#8, 0x00#8, 0x30#8, 0x54#8, 0x04#8]] := by decide +kernel
/-- R70: the table of targets. -/
theorem test_targets : (filling .tracking 12380).seekTarget none = 12372 ∧ (filling .tracking 5).seekTarget none = 0
    ∧ (filling .tracking 150).seekTarget (some ⟨104, 0⟩) = 100
    ∧ ({ filling .tracking 70000 with table := { base.table with
        config := { ConfigRecord.reset with window := 16, runIn := 40 } } }).seekTarget none = 69984 := by decide

/-! ### Values that meet the hypotheses of each statement -/

/-- A fill in a recovery for a reason. -/
def recovering (r : Reason) (f : FillState := .relocking) (fault : Option FaultRef := none) (s : State := base) : State :=
  { filling f 150 s with fill := { (filling f 150 s).fill with active := some ⟨r, fault, 142⟩ } }

/-- A command waits at the front and another behind it. -/
theorem witness_StepRunsFrontCommand : ({ base with pending := [.openEdge, .cue []] }).pending ≠ [] := by decide

theorem witness_WhatCannotComeHasNoEffect :
    ({ base with out := { base.out with samples := 479 } }).out.samples < 480 ∧ base.timer.expiryDue = false
    ∧ base.timer.settleDue = false ∧ base.timer.positionDue = false ∧ (atGain 1 (playing .stopping)).gain.fade ≠ 0
    ∧ base.out.play ≠ .pausing ∧ (playing .trayHold).tray.state ≠ .fading
    ∧ (∀ p ∈ (planned (plan .drop (some 128)) (playing .paused)).out.plan, p.kind = .drop ∧ p.phase = .fading)
    ∧ (playing .paused).gain.fade = 0 ∧ (playing .paused).out.play = .paused
    ∧ (∀ p ∈ (planned (plan .fade (some 128)) (playing .playing)).out.plan, p.kind ≠ .drop)
    ∧ base.out.plan = none ∧ 1 ≤ (0x01#8 : Byte).toNat ∧ (0x0D#8 : Byte).toNat ≤ 13
    ∧ 0x11 ≤ (0x11#8 : Byte).toNat ∧ (0x14#8 : Byte).toNat ≤ 0x14
    ∧ base.out.play ≠ .priming ∧ base.out.play ≠ .starved ∧ base.fill.state ≠ .pausedFull
    ∧ (filling .abandonWait).fill.owed = none
    ∧ ({ base with link := { base.link with sending := some [] } }).link.sending.isSome = true
    ∧ (trayAt .opened .low).tray.line = .low ∧ base.tray.line = .high
    ∧ (List.replicate 1919 (0x00#8 : Byte)).length ≠ 1920
    ∧ unitCause [0x03#8, 0x00#8, crc8 [0x03#8, 0x00#8]] = none := by decide +kernel

/-- A unit for each clause, the lengths and the body at their bounds. -/
theorem witness_ForwardChecksRunInOrder :
    unitCause [] = some .kind ∧ unitCause [0x05#8] = some .kind
    ∧ (0x01#8 :: List.replicate 1932 (0x00#8 : Byte)).length ≠ 1934
    ∧ (0x01#8 :: List.replicate 1933 (0x00#8 : Byte)).length = 1934
    ∧ unitCause [0x03#8] = some .length ∧ unitCause (controlFrame 0x04#8 (List.replicate 61 0x00#8)) = some .length
    ∧ unitCause [0x03#8, 0x00#8, 0x00#8] = some .crc
    ∧ unitCause (controlFrame 0x02#8 [0x10#8, 0x01#8]) = some .body
    ∧ unitCause (controlFrame 0x02#8 [0x0F#8, 0x02#8]) = some .body
    ∧ unitCause (controlFrame 0x02#8 [0x0F#8]) = some .body
    ∧ unitCause (controlFrame 0x02#8 [0x0F#8, 0x01#8]) = none
    ∧ unitCause (controlFrame 0x04#8 (List.replicate 60 0x00#8)) = none := by decide +kernel

theorem witness_RefusedUnitIsReported :
    unitCause [0x05#8] = some .kind ∧ base.table.config.mask = 0
    ∧ ({ base with reports := List.replicate 15 ⟨.lateAnswer 0 .locked, false⟩ }).reports.length < 16
    ∧ 1 ≤ ({ ConfigRecord.reset with mask := 1 }).mask := by decide

theorem witness_ForwardFramesReadBack :
    (List.replicate 60 (0x00#8 : Byte)).length ≤ 60 ∧ (frame 1 2 3).payload.length = 1920
    ∧ ([0x11#8] : List Byte).head? ≠ some 0x00#8 ∧ 13 < (([0x0E#8] : List Byte).headD 0x00#8).toNat
    ∧ (([0x10#8] : List Byte).headD 0x00#8).toNat < 0x11 ∧ 0x14 < (([0x15#8] : List Byte).headD 0x00#8).toNat := by
  decide +kernel

theorem witness_OutputSamplesStayInRange :
    levelGain 62 = 152 ∧ combinedGain 32768 32768 = 32768
    ∧ (Pair.mk 0x8000#16 0x7FFF#16).scale 32768 = ⟨0x8000#16, 0x7FFF#16⟩ := by decide +kernel

/-- The first and the last sample of a run of 480. -/
theorem witness_RampStaysBetweenItsAnchors :
    1 ≤ 1 ∧ 480 ≤ 480 ∧ (Pair.ramp ⟨0x8000#16, 0x7FFF#16⟩ ⟨0x7FFF#16, 0x8000#16⟩ 480 480).left.toInt = 32631
    ∧ (Pair.ramp ⟨0x8000#16, 0x7FFF#16⟩ ⟨0x7FFF#16, 0x8000#16⟩ 480 480).right.toInt = -32632 := by decide +kernel

/-- Code 6 over 4,096, 4,095 and 63 samples. -/
theorem witness_FadesTakeExactlyTheirLength :
    6 ≤ 6 ∧ 4096 ≤ 64 * 2 ^ 6 ∧ concealLength 4096 4096 = some 4096 ∧ concealLength 4096 4095 = some 2048
    ∧ concealLength 4096 64 = some 64 ∧ concealLength 4096 63 = none := by decide

theorem witness_WatchdogExpiresWithinItsBounds :
    let t : Timer := ⟨65535, 0, true, false, false, false⟩
    t.armed = true ∧ t.watchdog = 0 ∧ t.expiryDue = false ∧ t.count < 65536 ∧ ConfigRecord.reset.watchdogCode ≤ 3
    ∧ (⟨0, 0, true, false, false, false⟩ : Timer).count = 0 := by decide

theorem witness_PayloadAreasReadBack :
    Memory.wf [] ∧ (List.replicate 1920 (0x00#8 : Byte)).length = 1920 ∧ (2046 : Nat) ≠ 2047
    ∧ (0x00#8 : Byte) ≠ 0x80#8 ∧ 1920 * 1 - 1 < 1920 * 1 ∧ 1920 * 1 + 1920 ≤ 3840 := by
  refine ⟨⟨List.Pairwise.nil, fun _ h => by cases h⟩, List.length_replicate, ?_⟩; decide

/-- A queue of sixteen with one TRAY entry and one below level 7. -/
def fullQueue : List ReportEntry :=
  List.replicate 14 ⟨.lateAnswer 0 .locked, false⟩ ++ ⟨.position .segment ⟨0, 100, 0⟩ .playing, true⟩
    :: [⟨.tray .low .opened, false⟩]

theorem witness_ReportQueueTakesReportsByLevel :
    let halted : Report := .halted ⟨0, 100, 0⟩ .ramp
    let late : Report := .lateAnswer 1 .failed
    late.level ≤ ({ ConfigRecord.reset with mask := 1 }).mask ∧ late.level ≠ 7 ∧ (Report.tray .high .settling).isTray = true
    ∧ (fullQueue.take 15).any (fun x => x.report.isTray) = false ∧ (fullQueue.take 15).length < 16
    ∧ late.level < 7 ∧ 16 ≤ fullQueue.length ∧ halted.level = 7 ∧ halted.isTray = false
    ∧ (∀ x ∈ fullQueue.drop 15, x.report.level = 7) ∧ (∀ x ∈ fullQueue.take 15, x.report.level < 7) := by decide

/-- A part in HALTED, and a command that is not a reset. -/
theorem witness_HaltedStaysFrozen :
    let s := playing .halted (filling .halted)
    s.out.play = .halted ∧ s.fill.state = .halted ∧ s.timer.armed = false ∧ (Instr.samplePeriod []).keepsDram = true
    ∧ unknownCode [0x0E#8] ∧ unknownFormat [] := by decide

theorem witness_MalformedFramesChangeNothing :
    let b : List Byte := [0x00#8, 0x01#8]
    b ≠ [] ∧ base.out.play ≠ .halted ∧ b.length ≠ 1 ∧ b.length ≠ 4 ∧ b.length ≠ 9 ∧ b.length ≠ 6 ∧ b.length ≠ 17
    ∧ b.length ≠ 14 ∧ unknownCode [] ∧ unknownCode [0x0E#8] ∧ unknownFormat [0x15#8] := by decide

/-- Segment 0 of `base`; the addresses below, at and above its bounds. -/
theorem witness_PlayStartsAtItsPosition :
    base.out.play ≠ .halted ∧ base.tray.state = .closed ∧ base.table.playList[(0 : SegmentIndex)].valid = true
    ∧ base.table.playList[(0 : SegmentIndex)].first ≤ base.table.playList[(0 : SegmentIndex)].last
    ∧ (after (.play [0x00#8, 0x00#8, 0x00#8, 0x63#8]) base).track.expected = 100
    ∧ (after (.play [0x00#8, 0x00#8, 0x00#8, 0xC7#8]) base).track.expected = 199
    ∧ (after (.play [0x00#8, 0x00#8, 0x00#8, 0xC8#8]) base).track.expected = 199 := by decide +kernel

theorem witness_PlayAndResumeAreRefused :
    base.out.play ≠ .halted ∧ 64 ≤ (0x40#8 : Byte).toNat ∧ (0x3F#8 : Byte).toNat = (63 : SegmentIndex).val
    ∧ base.table.playList[(63 : SegmentIndex)].valid = false ∧ base.table.playList[(0 : SegmentIndex)].valid = true
    ∧ (trayAt .opened .low).tray.state ≠ .closed ∧ (playing .trayHold).out.play = .trayHold
    ∧ (playing .stopping).out.play = .stopping := by decide

theorem witness_PauseActsByPlayState :
    (playing .playing).out.play = .playing ∧ (playing .starved).out.play = .starved
    ∧ (playing .trayHold).out.play = .trayHold ∧ base.out.play = .idle := by decide

theorem witness_ResumeTurnsTheFadeUp :
    let waits := atCursor .waiting (playing .paused)
    let muted := planned (plan .mute) (atCursor (.head 10) (playing .pausing))
    let fading := planned (plan .fade (some 128)) (atCursor (.head 10) (playing .pausing))
    waits.out.cursor = .waiting ∧ waits.out.plan = none ∧ waits.out.play = .paused
    ∧ muted.out.cursor ≠ .waiting ∧ muted.out.play = .pausing ∧ (∀ p ∈ muted.out.plan, p.kind = .mute)
    ∧ fading.out.plan = some (plan .fade (some 128)) ∧ (plan .fade (some 128)).fadedOut = false
    ∧ (plan .drop (some 128)).phase = .fading
    ∧ (atCursor .finished (playing .paused (holding [slot 100, slot 101]))).out.cursor = .finished
    ∧ (atCursor .finished (playing .paused (holding [slot 100, slot 101]))).store.slots = slot 100 :: [slot 101]
    ∧ (atCursor .finished (playing .paused)).out.cursor ≠ .waiting := by decide

theorem witness_StopActsByPlayState :
    (playing .pausing).out.play = .pausing ∧ (playing .priming).out.play = .priming ∧ base.out.play = .idle
    ∧ (playing .stopping).out.play = .stopping ∧ (playing .stopping).gain.fade = 0
    ∧ (playing .trayHold).out.play = .trayHold := by decide

theorem witness_SteeringCommandsSetTheirValue :
    base.out.play ≠ .halted ∧ (0x3F#8 : Byte).toNat = (63 : SegmentIndex).val ∧ (0xFF#8 : Byte).toNat = 255
    ∧ 64 ≤ (0x40#8 : Byte).toNat ∧ (0xFE#8 : Byte).toNat ≤ 254 ∧ (0x01#8 : Byte).toNat ≤ 1 ∧ 2 ≤ (0x02#8 : Byte).toNat
    ∧ base.out.play ≠ .trayHold ∧ (playing .trayHold).out.play = .trayHold := by decide

theorem witness_OpenEdgeActsByTrayAndPlayState :
    base.tray.line = .high ∧ base.tray.state = .closed ∧ (atGain 1 (playing .playing)).gain.fade ≠ 0
    ∧ (playing .priming).gain.fade = 0 ∧ (playing .priming).tray.state = .closed ∧ (playing .stopping).out.play = .stopping
    ∧ base.out.play = .idle ∧ (trayAt .fading .high).tray.state = .fading ∧ (trayAt .settling .high).tray.line = .high
    ∧ (trayAt .awaitId .high).tray.state = .awaitId := by decide

theorem witness_CloseEdgeClearsTheTimebase :
    (trayAt .opened .low).tray.line = .low ∧ (trayAt .opened .low).tray.state = .opened
    ∧ (trayAt .fading .low).tray.state = .fading := by decide

theorem witness_SaveStepRecordsTheNextPair :
    let s := trayAt .fading .low (playing .trayHold)
    s.out.play = .trayHold ∧ s.tray.state = .fading ∧ s.gain.fade = 0
    ∧ (atCursor (.head 479) (holding [slot 100] s)).out.cursor = .head 479
    ∧ (atCursor .finished (holding [slot 100, slot 101] s)).store.slots = [slot 100, slot 101]
    ∧ (atCursor .finished (holding [slot 100] s)).store.slots = [slot 100]
    ∧ (atCursor .finished s).out.cursor = .finished
    ∧ (atCursor .next (holding [slot 100] s)).out.cursor = .next
    ∧ (atCursor .waiting s).out.cursor = .waiting ∧ (atCursor .waiting s).store.slots = [] := by decide

theorem witness_AckTrayClearsThePendingFlag :
    base.out.play ≠ .halted ∧ base.table.config.sensitivity = .edge
    ∧ ({ ConfigRecord.reset with sensitivity := .edgeAndLevel }).sensitivity = .edgeAndLevel
    ∧ (trayAt .opened .low).tray.line = .low := by decide

theorem witness_IdentifyNamesTheDisc :
    base.out.play ≠ .halted ∧ base.tray.pendingFlag = false ∧ base.out.play = .idle ∧ base.tray.state = .closed
    ∧ (trayAt .awaitId .high).tray.state = .awaitId ∧ (trayAt .settling .high).tray.state = .settling
    ∧ (playing .playing).out.play ≠ .idle := by decide

/-- A record of segment 0 at its last address, with the signature of the list and with another. -/
def record (signature : CheckWord) (a : Addr) : ResumeRecord := ⟨7, signature, ⟨0, a, 479⟩, 63, false⟩

set_option maxRecDepth 100000 in
theorem witness_IdentifyDecidesTheResume :
    let s := trayAt .awaitId .high (playing .trayHold)
    let sig := base.table.signature
    let held := { s with tray := { s.tray with records := [{ record sig 100 with fingerprint := 8 }, record sig 199] } }
    s.out.play = .trayHold ∧ s.tray.state = .awaitId ∧ s.tray.pendingFlag = false
    ∧ (∀ r ∈ s.tray.records, r.fingerprint ≠ 7)
    ∧ held.tray.records = [{ record sig 100 with fingerprint := 8 }] ++ record sig 199 :: []
    ∧ (record sig 199).fingerprint = 7 ∧ (record (sig + 1) 199).signature ≠ base.table.signature
    ∧ base.table.playList[(0 : SegmentIndex)].valid = true ∧ base.table.playList[(0 : SegmentIndex)].last < (record sig 200).position.address
    ∧ base.table.playList[(0 : SegmentIndex)].first ≤ (record sig 199).position.address
    ∧ (record sig 199).position.address ≤ base.table.playList[(0 : SegmentIndex)].last := by decide +kernel

theorem witness_QueryTableReadsTheHeldRecord :
    let s := { base with tray := { base.tray with records := List.replicate 8 (record 0 100) } }
    (0x3F#8 : Byte).toNat = (63 : SegmentIndex).val ∧ (0x03#8 : Byte).toNat = (3 : ProfileIndex).val
    ∧ s.tray.records[(0x07#8 : Byte).toNat]? = some (record 0 100) ∧ base.tray.records[(0x07#8 : Byte).toNat]? = none
    ∧ 64 ≤ (0x40#8 : Byte).toNat ∧ 4 ≤ (0x04#8 : Byte).toNat ∧ 8 ≤ (0x08#8 : Byte).toNat
    ∧ (0x10#8 : Byte) ≠ 0x00#8 ∧ (0x10#8 : Byte).toNat < 0x11 ∧ 0x14 < (0x15#8 : Byte).toNat
    ∧ 0x11 ≤ (0x11#8 : Byte).toNat ∧ (0x14#8 : Byte).toNat ≤ 0x14 ∧ (0x07#8 : Byte).toNat < 8 := by decide

theorem witness_SegmentLoadReplacesItsEntry :
    base.out.play ≠ .halted ∧ 64 ≤ (0x40#8 : Byte).toNat ∧ (99#24 : BitVec 24).toNat < (100#24 : BitVec 24).toNat
    ∧ 4 ≤ (0x04#8 : Byte).toNat ∧ (0x3F#8 : Byte).toNat = (63 : SegmentIndex).val ∧ (0x03#8 : Byte).toNat = (3 : ProfileIndex).val
    ∧ (∃ x ∈ (holding [slot 100]).store.slots, x.segment = 0)
    ∧ (filling .ended).track.segment = 0 ∧ (filling .ended).fill.state ≠ .stopped
    ∧ ¬ ((∃ x ∈ base.store.slots, x.segment = 63) ∨ (base.track.segment = 63 ∧ base.fill.state ≠ .stopped)) := by decide

theorem witness_ProfileLoadReplacesItsProfile :
    base.out.play ≠ .halted ∧ 4 ≤ (0x04#8 : Byte).toNat ∧ (0x03#8 : Byte).toNat = (3 : ProfileIndex).val
    ∧ base.gain.source = StepSource.currentProfile ∧ (atGain 1).gain.fade ≠ (atGain 1).gain.target := by decide

theorem witness_ConfigLoadReplacesTheRecord :
    base.out.play = .idle ∧ base.store.slots = [] ∧ (playing .trayHold (holding [slot 100])).store.slots ≠ []
    ∧ (playing .trayHold).out.play = .trayHold ∧ (playing .starved).out.play ≠ .idle
    ∧ (playing .starved).out.play ≠ .trayHold ∧ (playing .starved).out.play ≠ .halted := by decide

theorem witness_ResumeLoadInsertsItsRecord :
    base.out.play ≠ .halted ∧ 64 ≤ (0x40#8 : Byte).toNat ∧ 480 ≤ (480#16 : BitVec 16).toNat
    ∧ (0x3F#8 : Byte).toNat = (63 : SegmentIndex).val ∧ (479#16 : BitVec 16).toNat < 480 := by decide

theorem witness_SectorsAreVotedAndChecked :
    (frame 1 1 1).payload.length = 1920 ∧ base.fill.state = .stopped ∧ (filling .seeking).fill.state = .seeking
    ∧ (filling .halted).fill.state = .halted ∧ (arrivalOf (frame 1 1 2)).address = some (1, .noisy) := by decide +kernel

/-- A store one below high-water and one below the depth. -/
theorem witness_SectorAtEIsAppended :
    let s := holding [slot 149] (filling .tracking)
    let full := { s with store := { s.store with highWater := 2 } }
    (frame 150 150 150).payload.length = 1920 ∧ (arrivalOf (frame 150 150 150)).address = some (s.track.expected, .clean)
    ∧ (arrivalOf (frame 150 150 151)).address = some (s.track.expected, .noisy)
    ∧ s.store.slots.length < s.store.depth ∧ (∀ x ∈ s.store.slots, x.address ≠ s.track.expected)
    ∧ s.track.expected ≠ s.table.playList[s.track.segment].last ∧ s.store.refill < s.store.highWater
    ∧ ¬ s.store.highWater ≤ s.store.slots.length + 1 ∧ full.store.highWater ≤ full.store.slots.length + 1
    ∧ ({ full with store := { full.store with refill := 1 } }).store.refill < full.store.highWater
    ∧ (filling .pausedFull).fill.state = .pausedFull ∧ (filling .relocking).fill.state = .relocking := by decide +kernel

theorem witness_BlockedFrontPausesTheRead :
    let held := holding [slot 150] (filling .tracking)
    let full := { holding (List.replicate 256 (slot 10)) (filling .relocking) with
      store := { (holding (List.replicate 256 (slot 10))).store with depth := 256, refill := 255 } }
    (arrivalOf (frame 150 150 150)).address = some (held.track.expected, .clean)
    ∧ (∃ x ∈ held.store.slots, x.address = held.track.expected)
    ∧ full.store.depth ≤ full.store.slots.length ∧ full.store.refill < full.store.slots.length
    ∧ full.fill.state = .relocking ∧ full.track.expected = 150 ∧ (filling .pausedFull).fill.state = .pausedFull := by
  decide +kernel

/-- The list of `base` with the end at entry 0, without it, and without entry 0. -/
theorem witness_SegmentEndsAreCrossed :
    let t := base.table
    let open0 := t.playList.set 0 ⟨100, 199, 0, true, false⟩
    let s := filling .tracking 199
    ({ t with stopIndex := some 0 }).stopIndex = some 0 ∧ t.stopIndex ≠ some 0
    ∧ (1 : SegmentIndex).val = (0 : SegmentIndex).val + 1 ∧ open0[(0 : SegmentIndex)].eol = false
    ∧ open0[(1 : SegmentIndex)].valid = true ∧ t.playList[(0 : SegmentIndex)].eol = true ∧ (63 : SegmentIndex).val = 63
    ∧ t.playList[(2 : SegmentIndex)].valid = false ∧ ({ t with repeatFlag := true }).repeatFlag = true ∧ t.cueFlag = false
    ∧ ({ t with cueFlag := true }).cueFlag = true ∧ t.playList[(0 : SegmentIndex)].valid = true
    ∧ (t.playList.set 0 PlayEntry.reset)[(0 : SegmentIndex)].valid = false
    ∧ (arrivalOf (frame 199 199 199)).address = some (s.track.expected, .clean)
    ∧ (arrivalOf (frame 199 199 198)).address = some (s.track.expected, .noisy)
    ∧ s.store.slots.length < s.store.depth ∧ (∀ x ∈ s.store.slots, x.address ≠ s.track.expected)
    ∧ s.track.expected = s.table.playList[s.track.segment].last ∧ t.crossing 0 = .ends
    ∧ s.store.slots.length + 1 < s.store.highWater ∧ (filling .relocking 199).fill.state = .relocking
    ∧ (filling .pausedFull 199).fill.state = .pausedFull ∧ ({ t with repeatFlag := true }).crossing 0 = .goes 0 false
    ∧ ({ t with playList := open0 }).crossing 0 = .goes 1 false ∧ open0[(1 : SegmentIndex)].first = s.track.expected + 1
    ∧ t.playList[(0 : SegmentIndex)].first ≠ s.track.expected + 1
    ∧ (∃ c ∈ (recovering .skip).fill.active, c.reason = .skip)
    ∧ (∃ c ∈ (recovering .segment).fill.active, c.reason = .segment)
    ∧ ({ s.store with highWater := 1, refill := 0 }).highWater ≤ s.store.slots.length + 1
    ∧ ({ s.store with highWater := 1, refill := 0 }).refill < ({ s.store with highWater := 1, refill := 0 }).highWater := by decide +kernel

set_option maxRecDepth 1000000 in
theorem witness_OverlapRepairsADamagedSlot :
    let s := holding [slot 148, slot 149 .damaged] (filling .tracking)
    let repairing := recovering .repair .relocking (some ⟨149, 0⟩)
    (frame 149 149 149).payload.length = 1920 ∧ (arrivalOf (frame 149 149 149)).address = some (149, .clean)
    ∧ 149 < s.track.expected ∧ s.track.expected - s.table.config.window ≤ 86 ∧ s.fill.state = .tracking
    ∧ (∀ c ∈ (recovering .skip).fill.active, c.reason ≠ .repair)
    ∧ (∃ c ∈ repairing.fill.active, c.reason = .repair ∧ c.target ≤ 142) ∧ (filling .ended).fill.state = .ended
    ∧ (∀ x ∈ s.store.slots, x.address ≠ 86)
    ∧ s.store.slots = [slot 148] ++ slot 149 .damaged :: [] ∧ (∀ y ∈ [slot 148], y.address ≠ 149)
    ∧ (slot 149 .damaged).quality = .damaged ∧ s.heldForOutput 1 = false ∧ (slot 148).quality ≠ .damaged
    ∧ (atCursor (.head 0) s).heldForOutput 0 = true ∧ (arrivalOf (frame 149 149 149 0x02#8)).quality = .damaged := by
  decide +kernel

set_option maxRecDepth 1000000 in
/-- The good quality of a frame whose check passes. -/
theorem witness_OverlapQuality : (arrivalOf (frame 149 149 149)).quality = .clean
    ∧ (arrivalOf (frame 149 149 149 0x01#8)).quality = .repaired := by decide +kernel

theorem witness_ArrivalsOutOfPlaceSeekAgain :
    let s := filling .tracking
    (arrivalOf (frame 151 151 151)).address = some (151, .clean) ∧ (arrivalOf (frame 85 85 85)).address = some (85, .clean)
    ∧ s.track.expected < 151 ∧ 85 < s.track.expected - s.table.config.window ∧ 85 ≠ s.track.expected
    ∧ (arrivalOf (frame 1 2 3)).address = none ∧ (arrivalOf (frame 150 150 150)).address = some (s.track.expected, .clean)
    ∧ (filling .pausedFull).track.expected = 150 ∧ (filling .abandonWait).track.expected = 150
    ∧ (filling .ended).fill.state = .ended ∧ 141 < ((recovering .repair).fill.active.map ActiveCause.target).getD 0
    ∧ (recovering .skip).fill.state = .relocking := by decide +kernel

/-- A list whose first entry has no attempt left and whose second lies exactly at the lead. -/
theorem witness_RepairEvaluationTakesTheOldestEntry :
    let s := { filling .tracking with faults := [⟨63, 148, 0, 1⟩, ⟨64, 149, 0, 0⟩] }
    let eligible := fun (e : FaultEntry) => e.segment = s.track.segment ∧ e.address < s.track.expected
      ∧ e.attempts < s.table.config.attemptLimit
      ∧ s.table.profiles[s.table.playList[e.segment].profile].repairLead
          ≤ (e.slot + s.store.depth - s.store.head) % s.store.depth
    base.fill.state ≠ .tracking ∧ base.fill.state ≠ .pausedFull ∧ (∀ e ∈ base.faults, ¬ eligible e)
    ∧ s.faults = [⟨63, 148, 0, 1⟩] ++ (⟨64, 149, 0, 0⟩ : FaultEntry) :: [] ∧ (∀ x ∈ [(⟨63, 148, 0, 1⟩ : FaultEntry)], ¬ eligible x)
    ∧ eligible ⟨64, 149, 0, 0⟩ ∧ s.fill.state = .tracking := by decide +kernel

theorem witness_SeekAnswersMatchOrAreStale :
    let s := { filling .seeking with fill := { (filling .seeking).fill with outstanding := some 15 } }
    s.link.seek = none ∧ s.fill.state = .seeking ∧ s.fill.outstanding = some 15 ∧ s.fill.outstanding ≠ some 14
    ∧ base.fill.state ≠ .seeking
    ∧ ({ base.link with seek := some ⟨15, 142, .skip⟩ }).seek.isSome = true := by decide

theorem witness_ExpiryRetriesOrAbandons :
    let t : Timer := ⟨0, 3, true, true, false, false⟩
    let last := { recovering .skip with fill := { (recovering .skip).fill with retry := 4 } }
    t.expiryDue = true ∧ t.armed = true ∧ 3 ≤ t.watchdog ∧ ({ t with watchdog := 2 }).watchdog < 3
    ∧ ({ t with armed := false }).armed = false ∧ last.fill.active = some ⟨.skip, none, 142⟩
    ∧ (recovering .skip).fill.retry < base.table.config.retryLimit ∧ base.table.config.retryLimit ≤ last.fill.retry
    ∧ (⟨.repair, some ⟨149, 0⟩, 142⟩ : ActiveCause).reason = .repair ∧ last.track.expected ≤ last.table.playList[last.track.segment].last
    ∧ last.store.slots.length + 25 ≤ last.store.depth ∧ (∀ x ∈ last.store.slots, x.address < 150 ∨ 150 + 25 ≤ x.address)
    ∧ ¬ (∀ x ∈ (holding [slot 174] last).store.slots, x.address < 150 ∨ 150 + 25 ≤ x.address) := by decide +kernel

theorem witness_AbandonsGoOnAfterTheirRun :
    let s := { filling .abandonWait with fill := { (filling .abandonWait).fill with owed := some ⟨150, 25⟩ } }
    let late := { holding [slot 149, slot 150 .missing] (filling .abandonWait) with
      fill := { (filling .abandonWait).fill with abandon := 3 } }
    s.fill.state = .abandonWait ∧ s.fill.owed = some ⟨150, 25⟩ ∧ s.store.slots.length + 25 ≤ s.store.depth
    ∧ ¬ (∀ x ∈ (holding [slot 174] s).store.slots, x.address < 150 ∨ 150 + 25 ≤ x.address)
    ∧ s.fill.state ≠ .pausedFull ∧ 199 = s.table.playList[s.track.segment].last ∧ s.table.crossing s.track.segment = .ends
    ∧ ({ s.table with repeatFlag := true }).crossing s.track.segment = .goes 0 false
    ∧ 174 ≠ s.table.playList[s.track.segment].last ∧ s.fill.abandon + 1 ≤ s.table.config.abandonLimit
    ∧ late.table.config.abandonLimit < late.fill.abandon + 1 ∧ late.store.slots = [slot 149] ++ [slot 150 .missing]
    ∧ (filling .pausedFull).store.slots.length ≤ base.store.refill
    ∧ ¬ (∃ x ∈ (filling .pausedFull).store.slots, x.address = 150)
    ∧ ({ base.store with refill := 0, slots := [slot 100] }).refill < 1
    ∧ (∃ x ∈ (holding [slot 150] (filling .pausedFull)).store.slots, x.address = 150) := by decide +kernel

theorem witness_TransmitterSendsInOrder :
    let asks := { base with link := { base.link with seek := some ⟨1, 12372, .skip⟩ } }
    base.link.sending = none ∧ asks.link.seek = some ⟨1, 12372, .skip⟩ ∧ base.link.seek = none
    ∧ ({ base.link with pause := true }).pause = true ∧ base.link.pause = false
    ∧ ({ base with reports := fullQueue }).reports = fullQueue ∧ fullQueue ≠ [] ∧ base.reports = [] := by decide +kernel

theorem witness_TimebaseEventsHaveTheirEffects :
    let due := { base with timer := ⟨99, 0, false, false, true, true⟩ }
    let periodic := { playing .playing with table := { base.table with
      config := { ConfigRecord.reset with positionMode := .periodic } } }
    480 ≤ ({ base.out with samples := 480 }).samples ∧ due.timer.settleDue = true
    ∧ (trayAt .settling .high).tray.state = .settling ∧ base.tray.state ≠ .settling ∧ due.timer.positionDue = true
    ∧ periodic.table.config.positionMode = .periodic ∧ periodic.out.play ≠ .idle ∧ periodic.out.play ≠ .halted
    ∧ ({ base.tray with saved := some ⟨0, 100, 0⟩ }).saved = some ⟨0, 100, 0⟩ ∧ base.tray.saved = none
    ∧ (holding [slot 100]).store.slots = [slot 100] ∧ base.store.slots = []
    ∧ base.table.config.positionMode ≠ .periodic := by decide

/-- The occupancy at the threshold, at 1, and below both. -/
theorem witness_PlayBeginsAndPausesAtSilence :
    (playing .pausing).out.play = .pausing ∧ (playing .pausing).gain.fade = 0
    ∧ base.store.start ≤ (holding (List.replicate 50 (slot 100))).store.slots.length
    ∧ 1 ≤ (holding [slot 100] (filling .ended)).store.slots.length ∧ (filling .ended).fill.state = .ended
    ∧ ¬ base.store.start ≤ (holding (List.replicate 49 (slot 100))).store.slots.length
    ∧ (filling .tracking).fill.state ≠ .ended ∧ (filling .tracking).fill.state ≠ .abandonWait
    ∧ (filling .tracking).fill.state ≠ .pausedFull ∧ (playing .starved).gain.fade = 0 := by decide

set_option maxRecDepth 1000000 in
/-- An area nothing has written reads as zeros, whose check word the slot holds; another does not match it. -/
theorem witness_areaCheck : some (crc16 (Memory.readArea base.store.dram (base.store.head % base.store.depth)))
      = (slot 100).check
    ∧ some (crc16 (Memory.readArea base.store.dram (base.store.head % base.store.depth)))
      ≠ ({ slot 100 with check := some 0x0000#16 } : Slot).check := by decide +kernel

theorem witness_DroppedRunsLeaveTheStore :
    let s := planned (plan .drop (some 128)) (playing .playing (holding [slot 100 .missing, slot 101]))
    s.out.plan = some (plan .drop (some 128)) ∧ (plan .drop (some 128)).kind = .drop
    ∧ (plan .drop (some 128)).phase = .fading ∧ s.gain.fade = 0 ∧ s.out.play = .playing
    ∧ (trayAt .fading .low (playing .trayHold)).tray.state = .fading
    ∧ s.store.slots = slot 100 .missing :: [slot 101] ∧ base.store.slots = []
    ∧ (slot 101).quality = .clean ∧ (slot 100 .missing).quality = .missing := by decide

theorem witness_SamplePeriodSendsOnePair :
    base.nothingDue ∧ base.out.play = .idle
    ∧ (playing .starved (atCursor .waiting (atGain 1))).nothingDue
    ∧ (playing .starved (atCursor .waiting (atGain 1))).out.play = .starved
    ∧ (atCursor .waiting (playing .pausing (atGain 1))).nothingDue
    ∧ (atCursor .waiting (playing .pausing)).out.cursor = .waiting
    ∧ (atCursor .waiting (playing .pausing)).out.plan = none
    ∧ (trayAt .opened .low (playing .trayHold)).tray.state ≠ .fading ∧ Memory.wf [] ∧ 4194303 < 4194304 := by
  refine ⟨?_, rfl, ?_, rfl, ?_, rfl, rfl, ?_, ⟨List.Pairwise.nil, fun _ h => by cases h⟩, ?_⟩ <;> decide

/-- The first pair, the pair at which a cut fade of 256 is due, and the last. -/
theorem witness_BlocksArePlayedPairByPair :
    let s := atGain 32768 (playing .playing (holding [{ slot 100 with cutAfter := true }]))
    let dying := { atGain 1 (atCursor (.head 479) (playing .pausing (holding [slot 100]))) with
      gain := { base.gain with fade := 1, step := 128 } }
    s.out.play = .playing ∧ s.out.plan = none ∧ (atCursor (.head 224) s).out.cursor = .head 224
    ∧ 224 + min (64 * 2 ^ s.currentProfile.fadeCode) 256 = 480 ∧ 0 < s.gain.fade ∧ s.store.slots ≠ []
    ∧ (0 : Nat) < 479 ∧ dying.out.play ≠ .playing ∧ (dying.sounded Pair.zero).gain.fade = 0
    ∧ ((atCursor (.head 479) (playing .pausing (atGain 32768))).sounded Pair.zero).gain.fade ≠ 0 := by decide +kernel

theorem witness_PlansGiveTheirPairs :
    let s := planned (plan .fade (some 128)) (atCursor (.head 0)
      (playing .playing (holding [slot 100 .missing, slot 101 .missing])))
    let two := { plan .mute with runLength := 2, left := 2 }
    s.out.play = .playing ∧ s.out.plan = some (plan .fade (some 128)) ∧ s.out.cursor = .head 0
    ∧ s.store.slots = slot 100 .missing :: [slot 101 .missing] ∧ (plan .drop (some 128)).kind = .drop
    ∧ (plan .fade (some 128)).kind ≠ .drop ∧ 1 < two.left ∧ (plan .ramp).left ≤ 1 ∧ (plan .ramp).kind = .ramp
    ∧ (plan .mute).kind ≠ .ramp ∧ (playing .pausing).out.play ≠ .playing
    ∧ ((playing .pausing).sounded Pair.zero).gain.fade = 0
    ∧ ((playing .pausing (atGain 32768)).sounded Pair.zero).gain.fade ≠ 0 := by decide

theorem witness_HeadsAreReadAndVerified :
    let s := atCursor .next (playing .playing (holding [slot 100]))
    s.nothingDue ∧ s.out.cursor = .next ∧ s.out.startOffset < 480 ∧ s.out.play = .playing ∧ s.store.slots ≠ []
    ∧ s.store.slots = slot 100 :: [] ∧ (planned (plan .fade) s).out.plan.isSome = true ∧ s.out.plan = none
    ∧ (slot 100).quality = .clean ∧ (slot 100 .damaged).quality = .damaged ∧ (slot 100 .missing).quality = .missing := by
  refine ⟨?_, rfl, ?_, rfl, ?_, rfl, rfl, rfl, rfl, rfl, rfl⟩ <;> decide

/-- A run of two at the ramp limit with a follower, one without a follower, and the three long actions. -/
theorem witness_RunsArePlannedByTheirProfile :
    let s := playing .playing (holding [slot 100 .damaged, slot 101 .missing, slot 102])
    let profile := s.table.profiles[s.table.playList[(slot 100 .damaged).segment].profile]
    s.store.slots = slot 100 .damaged :: ([slot 101 .missing] ++ [slot 102])
    ∧ (∀ y ∈ [slot 101 .missing], y.quality = .damaged ∨ y.quality = .missing)
    ∧ (∀ y ∈ [slot 102].head?, y.quality = .clean ∨ y.quality = .repaired)
    ∧ [slot 101 .missing].length + 1 ≤ profile.rampLimit ∧ (∀ y ∈ [slot 100 .damaged, slot 101 .missing], y.cutAfter = false)
    ∧ profile.longAction = .fade ∧ ({ profile with longAction := .mute }).longAction = .mute
    ∧ ({ profile with longAction := .drop }).longAction = .drop
    ∧ concealLength (64 * 2 ^ profile.fadeCode) (2 * 480 - 0) = some 256
    ∧ concealLength (64 * 2 ^ profile.fadeCode) (1 * 480 - 430) = none := by decide

/-! ### A lawful state in the midst of play -/

/-- Play in TRACKING: a block being handed on, a listed fault behind it, an open edge waiting. -/
def inPlay : State :=
  { playing .playing (filling .tracking 102 (holding [slot 100, slot 101 .damaged true])) with
    faults := [⟨1, 101, 0, 0⟩]
    out := { base.out with play := .playing, cursor := .head 5, cursorSegment := some 0 }
    gain := { base.gain with fade := 32768, target := 32768 }
    pending := [.openEdge] }

theorem bytesFrom_nil (a n : Nat) : Memory.bytesFrom a n [] = List.replicate n 0x00#8 := by
  induction n generalizing a with
  | zero => rfl
  | succ n ih => simp [Memory.bytesFrom, Memory.unlisted, ih, List.replicate_succ]

theorem inPlay_payload : PayloadLaw inPlay := by
  intro x hx c hc
  have known : ∀ y ∈ inPlay.store.slots, y.check = some zeroCheck := by decide
  have held := known x.1 (List.fst_mem_of_mem_zipIdx hx)
  rw [held] at hc
  cases hc
  exact (congrArg crc16 (bytesFrom_nil _ _)).trans test_zeroCheck

theorem inPlay_store : StoreLaw inPlay :=
  ⟨by decide, by decide, by decide, by decide, by decide, by decide, List.Pairwise.nil, fun _ h => by cases h⟩

theorem inPlay_faults : FaultLaw inPlay := ⟨by decide, by decide, by decide, by decide⟩

theorem inPlay_order : OrderLaw inPlay :=
  ⟨by decide, by decide, fun _ => ⟨by decide, by decide, by decide⟩, by decide, by decide⟩

theorem inPlay_fill : FillLaw inPlay :=
  ⟨by decide, by decide, by decide, by decide, by decide, by decide, by decide, by decide, by decide,
    by decide, by decide, by decide, by decide⟩

theorem inPlay_gain : GainLaw inPlay := by decide

theorem inPlay_tables : TableLaw inPlay := by decide

theorem inPlay_lawful : Lawful inPlay :=
  ⟨inPlay_store, inPlay_faults, inPlay_order, inPlay_fill, inPlay_gain, by decide, inPlay_tables, by decide, by decide,
    ⟨by decide, by decide, by decide, by decide, by decide, by decide, by decide, by decide, (fun p h => by cases h),
      fun p h => by cases h⟩⟩

theorem witness_LawfulAtReset : Memory.wf inPlay.store.dram ∧ Memory.wf [⟨0, 0x01#8⟩, ⟨4194303, 0xFF#8⟩] := by
  refine ⟨⟨List.Pairwise.nil, fun _ h => by cases h⟩, ?_⟩; decide

theorem witness_StoreAndFaultLawsAreKept : Lawful inPlay ∧ PayloadLaw inPlay
    ∧ (∀ c ∈ inPlay.pending.head?, c.keepsDram = true) ∧ ∃ t, step inPlay = .next t :=
  ⟨inPlay_lawful, inPlay_payload, by decide, _, rfl⟩

theorem witness_OrderAndFillLawsAreKept : Lawful inPlay ∧ ∃ t, step inPlay = .next t := ⟨inPlay_lawful, _, rfl⟩

theorem witness_OutputTrayAndTableLawsAreKept : Lawful inPlay ∧ ∃ t, step inPlay = .next t := ⟨inPlay_lawful, _, rfl⟩

end Sys2Proof.Tests
end

section
/-! SUPPORT. The depth, the marks and the payload areas of the Block Store (spec/01). -/

namespace Sys2Proof.Machine

/-! ### Depth and marks -/

theorem formDepth_eq (received : Nat) : formDepth received
    = if received < 256 then 256 else if 2048 ≤ received then 2048 else received - received % 256 := by
  rw [formDepth]; split_ifs <;> omega

/-- The depth in force (R4). -/
theorem formDepth_bounds (received : Nat) :
    256 ≤ formDepth received ∧ formDepth received ≤ 2048 ∧ formDepth received % 256 = 0 := by
  rw [formDepth]; omega

/-- High-water is at least 1 and at least 8 below the depth (R18). -/
theorem formHighWater_bounds {depth : Nat} (margin : Nat) (h : 256 ≤ depth) :
    1 ≤ formHighWater depth margin ∧ formHighWater depth margin + 8 ≤ depth := by
  rw [formHighWater]; omega

/-- The refill level is below high-water (R18). -/
theorem formRefill_lt {high : Nat} (received : Nat) (h : 1 ≤ high) : formRefill high received < high := by
  simp only [formRefill]; split_ifs <;> omega

/-- The start threshold lies within 1 and high-water (R18). -/
theorem formStart_bounds {high : Nat} (received : Nat) (h : 1 ≤ high) :
    1 ≤ formStart high received ∧ formStart high received ≤ high := by
  rw [formStart]; omega

/-- Settles O12: each figure by the bounds of the one it is formed from, the depth first. -/
theorem marksAreFormedWithinTheDepth : Obligations.MarksAreFormedWithinTheDepth := by
  intro st received c
  obtain ⟨low, high, whole⟩ := formDepth_bounds received
  obtain ⟨positive, room⟩ := formHighWater_bounds c.highMargin low
  exact ⟨formDepth_eq received, low, high, whole, rfl, rfl, rfl, formRefill_lt c.refill positive, room,
    (formStart_bounds c.start positive).2, rfl, rfl⟩

/-! ### The CRC-16 -/

/-- The bit a shift moves in at the bottom is the one it has moved out, as 1021h is odd; so a shift can be undone. -/
theorem crc16Shift_injective : Function.Injective crc16Shift := by
  intro x y h
  have low (r : CheckWord) : (crc16Shift r).getLsbD 0 = r.msb := by
    rw [crc16Shift]; split <;> simp_all
  have top : x.msb = y.msb := by rw [← low x, ← low y, h]
  have shifted : x <<< 1 = y <<< 1 := by
    simp only [crc16Shift, top] at h
    split at h
    · exact (BitVec.xor_left_inj _).1 h
    · exact h
  apply BitVec.eq_of_getLsbD_eq
  intro i hi
  by_cases hlt : i + 1 < 16
  · simpa [hlt, hi] using congrArg (fun r : CheckWord => r.getLsbD (i + 1)) shifted
  · obtain rfl : i = 15 := by omega
    simpa [BitVec.msb_eq_getLsbD_last] using top

/-- A byte's step can be undone (R21). -/
theorem crc16Byte_injective (b : Byte) : Function.Injective (crc16Byte · b) := fun _ _ h =>
  (BitVec.xor_left_inj _).1 (crc16Shift_injective.iterate 8 h)

/-- Two bytes taken into one register leave two registers (R21). -/
theorem crc16Byte_byte_injective (r : CheckWord) : Function.Injective (crc16Byte r) := by
  intro b c h
  have high : b.setWidth 16 <<< 8 = c.setWidth 16 <<< 8 :=
    (BitVec.xor_right_inj r).1 (crc16Shift_injective.iterate 8 h)
  apply BitVec.eq_of_getLsbD_eq
  intro i hi
  have hi16 : i + 8 < 16 := by omega
  simpa [BitVec.getLsbD_shiftLeft, hi16, hi] using congrArg (fun r : CheckWord => r.getLsbD (i + 8)) high

theorem foldl_crc16Byte_injective (bytes : List Byte) : Function.Injective (bytes.foldl crc16Byte ·) := by
  induction bytes with
  | nil => exact fun _ _ h => h
  | cons b bytes ih => exact fun _ _ h => crc16Byte_injective b (ih h)

theorem crc16_append (front back : List Byte) : crc16 (front ++ back) = back.foldl crc16Byte (crc16 front) :=
  List.foldl_append

/-- One changed byte changes the check word (R21). -/
theorem crc16_ne_of_byte_ne (front back : List Byte) {b c : Byte} (h : b ≠ c) :
    crc16 (front ++ b :: back) ≠ crc16 (front ++ c :: back) := by
  rw [crc16_append, crc16_append]
  exact fun same => h (crc16Byte_byte_injective _ (foldl_crc16Byte_injective back same))

/-! ### Payload areas -/

/-- A write keeps the addresses rising, wherever it lies. -/
theorem Memory.pairwise_write {d : List Host.Cell} (h : d.Pairwise (fun x y => x.1 < y.1)) (base : Nat)
    (bytes : List Byte) : (Memory.write d base bytes).Pairwise (fun x y => x.1 < y.1) := by
  have below : ∀ c ∈ d.filter (fun c => c.1 < base), c.1 < base := fun c hc =>
    of_decide_eq_true (List.mem_filter.1 hc).2
  have above : ∀ c ∈ d.filter (fun c => base + bytes.length ≤ c.1), base + bytes.length ≤ c.1 := fun c hc =>
    of_decide_eq_true (List.mem_filter.1 hc).2
  rw [Memory.write, List.pairwise_append, List.pairwise_append]
  refine ⟨⟨h.filter _, Memory.pairwise_cells _ _, fun x hx y hy => ?_⟩, h.filter _, fun x hx y hy => ?_⟩
  · exact (below x hx).trans_le (Memory.mem_cells hy).1
  · rcases List.mem_append.1 hx with hx | hx
    · have := below x hx; have := above y hy; omega
    · exact (Memory.mem_cells hx).2.1.trans_le (above y hy)

/-- A payload written into an area reads back (R22, R23). -/
theorem Memory.readArea_write_same {d : List Host.Cell} (h : d.Pairwise (fun x y => x.1 < y.1)) (slot : Nat)
    {payload : List Byte} (size : payload.length = 1920) :
    Memory.readArea (Memory.write d (1920 * slot) payload) slot = payload := by
  rw [Memory.readArea_eq _ _ (Memory.pairwise_write h _ _)]
  refine List.ext_getElem (by simp [size]) fun i hi hp => ?_
  simp [Memory.read_write, hp]

/-- A write into one area leaves every other (R3). -/
theorem Memory.readArea_write_other {d : List Host.Cell} (h : d.Pairwise (fun x y => x.1 < y.1)) {slot other : Nat}
    {payload : List Byte} (size : payload.length = 1920) (ne : other ≠ slot) :
    Memory.readArea (Memory.write d (1920 * slot) payload) other = Memory.readArea d other := by
  rw [Memory.readArea_eq _ _ (Memory.pairwise_write h _ _), Memory.readArea_eq _ _ h]
  refine List.map_congr_left fun a ha => ?_
  obtain ⟨i, hi, rfl⟩ := List.mem_range'.1 ha
  rw [Memory.read_write, if_neg (by omega)]

/-- Settles O13: the check word by the injectivity of one byte's step, the areas byte by byte. -/
theorem payloadAreasReadBack : Obligations.PayloadAreasReadBack := by
  refine ⟨⟨rfl, fun bytes b => crc16_append bytes [b], fun front back b c => crc16_ne_of_byte_ne front back⟩, ?_⟩
  intro d slot other a payload ⟨sorted, _⟩ size
  refine ⟨Memory.readArea_write_same sorted slot size, Memory.readArea_write_other sorted size, fun outside => ?_⟩
  rw [Memory.read_write, if_neg (by omega)]

end Sys2Proof.Machine
end

section
/-! SUPPORT. Hard reset: every field, and the laws it starts from. -/

namespace Sys2Proof.Machine

/-- What a hard reset leaves: the reset values, the line's level, the bytes of the DRAM and the commands that wait. -/
def State.hardReset (line : TrayLine) (dram : List Host.Cell) (pending : List Instr) : State :=
  { State.reset with
    tray := { State.reset.tray with line := line, state := resetTrayState line }
    store := { State.reset.store with dram := dram }
    pending := pending }

theorem exec_hardReset (line : TrayLine) (s : State) :
    exec (.hardReset line) s = .next (State.hardReset line s.store.dram s.pending) := rfl

/-- Settles O36: by the level of the line, which alone chooses a value. -/
theorem hardResetSetsEveryField : Obligations.HardResetSetsEveryField := by
  intro s line
  rw [exec_hardReset]
  cases line <;> rfl

theorem storeLaw_reset : StoreLaw State.reset :=
  ⟨by decide, by decide, by decide, by decide, by decide, by decide, Memory.reset_wf⟩

/-- The laws that speak of the tray hold at either level of the line. -/
theorem trayLaws_hardReset (line : TrayLine) :
    GainLaw (State.hardReset line [] []) ∧ TrayLaw (State.hardReset line [] [])
      ∧ OutputLaw (State.hardReset line [] []) := by
  cases line <;> exact ⟨by decide, by decide, by decide⟩

theorem storeLaw_hardReset (line : TrayLine) {dram : List Host.Cell} (h : Memory.wf dram) (pending : List Instr) :
    StoreLaw (State.hardReset line dram pending) := by
  obtain ⟨depth, room, head, marks, addresses, checks, _⟩ := storeLaw_reset
  exact ⟨depth, room, head, marks, addresses, checks, h⟩

/-- No law but that of the Block Store speaks of the DRAM, and none of the commands that wait. -/
theorem lawful_hardReset (line : TrayLine) {dram : List Host.Cell} (h : Memory.wf dram) (pending : List Instr) :
    Lawful (State.hardReset line dram pending) :=
  have ⟨gain, tray, output⟩ := trayLaws_hardReset line
  ⟨storeLaw_hardReset line h pending, (by decide : FaultLaw State.reset), (by decide : OrderLaw State.reset),
    (by decide : FillLaw State.reset), gain, (by decide : ReportLaw State.reset), (by decide : TableLaw State.reset),
    (by decide : ResumeLaw State.reset), tray, output⟩

/-- No slot is held, so no area is owned. -/
theorem payload_hardReset (line : TrayLine) (dram : List Host.Cell) (pending : List Instr) :
    PayloadLaw (State.hardReset line dram pending) := fun _ h => by cases h

/-- Settles O60: `State.reset` is the hard reset over the empty memory with the line high. -/
theorem lawfulAtReset : Obligations.LawfulAtReset :=
  ⟨⟨lawful_hardReset .high Memory.reset_wf [], payload_hardReset .high [] []⟩, fun s line h =>
    ⟨_, exec_hardReset line s, lawful_hardReset line h s.pending, payload_hardReset line s.store.dram s.pending⟩⟩

end Sys2Proof.Machine
end

section
/-! SUPPORT. The ring of slots, and the laws of the store, its payloads and the Fault List by position. -/

namespace Sys2Proof.Machine

/-! ### The ring -/

/-- The distance of a physical slot is the position it stands at (R5, R93). -/
theorem Store.distance_physical {st : Store} {i : Nat} (hh : st.head < st.depth) (hi : i < st.depth) :
    st.distance (st.physical i) = i := by
  rw [Store.distance, Store.physical]
  rcases Nat.lt_or_ge (st.head + i) st.depth with below | wraps
  · rw [Nat.mod_eq_of_lt below, show st.head + i + st.depth - st.head = i + st.depth by omega,
      Nat.add_mod_right, Nat.mod_eq_of_lt hi]
  · have wrapped : (st.head + i) % st.depth = st.head + i - st.depth := by
      rw [Nat.mod_eq_sub_mod wraps, Nat.mod_eq_of_lt (by omega)]
    rw [wrapped, show st.head + i - st.depth + st.depth - st.head = i by omega, Nat.mod_eq_of_lt hi]

/-- Two positions below the depth are two physical slots (R5). -/
theorem Store.physical_inj {st : Store} {i j : Nat} (hh : st.head < st.depth) (hi : i < st.depth) (hj : j < st.depth)
    (h : st.physical i = st.physical j) : i = j := by
  rw [← Store.distance_physical hh hi, h, Store.distance_physical hh hj]

/-- Each slot keeps its physical slot as the head leaves (R5, R12). -/
theorem Store.physical_dropHead (st : Store) (i : Nat) : st.dropHead.physical i = st.physical (i + 1) := by
  simp only [Store.physical, Store.dropHead, Nat.mod_add_mod]
  congr 1; omega

theorem Store.physical_zero {st : Store} (hh : st.head < st.depth) : st.physical 0 = st.head :=
  Nat.mod_eq_of_lt hh

/-! ### The Block Store's law, by name -/

/-- `StoreLaw`, clause by clause. -/
structure Store.Sound (st : Store) : Prop where
  depth_low : 256 ≤ st.depth
  depth_high : st.depth ≤ 2048
  depth_step : st.depth % 256 = 0
  room : st.slots.length ≤ st.depth
  head : st.head < st.depth
  refill : st.refill < st.highWater
  high : st.highWater + 8 ≤ st.depth
  start_low : 1 ≤ st.start
  start_high : st.start ≤ st.highWater
  addresses : st.slots.Pairwise (fun x y => x.address ≠ y.address)
  checks : ∀ x ∈ st.slots, (x.check = none ↔ x.quality = .missing)
  dram : Memory.wf st.dram

theorem storeLaw_iff (s : State) : StoreLaw s ↔ s.store.Sound := by
  constructor
  · rintro ⟨⟨a, b, c⟩, d, e, ⟨f, g, h, i⟩, j, k, l⟩
    exact ⟨a, b, c, d, e, f, g, h, i, j, k, l⟩
  · rintro ⟨a, b, c, d, e, f, g, h, i, j, k, l⟩
    exact ⟨⟨a, b, c⟩, d, e, ⟨f, g, h, i⟩, j, k, l⟩

/-- The area of a slot lies inside the device (R3). -/
theorem Store.Sound.area {st : Store} (h : st.Sound) (i : Nat) :
    1920 * st.physical i + 1920 ≤ Config.dramBytes := by
  have := Nat.mod_lt (st.head + i) (Nat.zero_lt_of_lt h.head)
  have := h.depth_high
  rw [Store.physical, Config.dramBytes]; omega

/-- A slot of the ring is at one position only (R7). -/
theorem Store.Sound.position {st : Store} (h : st.Sound) {i j : Nat} {x y : Slot} (hi : st.slots[i]? = some x)
    (hj : st.slots[j]? = some y) (same : x.address = y.address) : i = j := by
  obtain ⟨li, rfl⟩ := List.getElem?_eq_some_iff.1 hi
  obtain ⟨lj, rfl⟩ := List.getElem?_eq_some_iff.1 hj
  have apart := List.pairwise_iff_getElem.1 h.addresses
  rcases Nat.lt_trichotomy i j with lt | eq | gt
  · exact absurd same (apart i j li lj lt)
  · exact eq
  · exact absurd same.symm (apart j i lj li gt)

theorem Store.Sound.lt_depth {st : Store} (h : st.Sound) {i : Nat} {x : Slot} (hi : st.slots[i]? = some x) :
    i < st.depth :=
  (List.getElem?_eq_some_iff.1 hi).1.trans_le h.room

/-! ### The payload areas -/

/-- `PayloadLaw`, position by position. -/
def Store.AreasRead (st : Store) : Prop :=
  ∀ i x c, st.slots[i]? = some x → x.check = some c → crc16 (Memory.readArea st.dram (st.physical i)) = c

theorem payloadLaw_iff (s : State) : PayloadLaw s ↔ s.store.AreasRead := by
  constructor
  · intro h i x c hi hc
    exact h (x, i) (List.mem_zipIdx_iff_getElem?.2 hi) c hc
  · intro h x hx c hc
    exact h x.2 x.1 c (List.mem_zipIdx_iff_getElem?.1 hx) hc

/-! ### The Fault List -/

/-- The entry of the slot at a position, DAMAGED and listed (R93, R94). -/
structure FaultEntry.Marks (e : FaultEntry) (st : Store) (i : Nat) (x : Slot) : Prop where
  held : st.slots[i]? = some x
  slot : st.physical i = e.slot
  address : x.address = e.address
  segment : x.segment = e.segment
  damaged : x.quality = .damaged
  listed : x.listed = true

/-- `FaultLaw`, clause by clause. -/
structure FaultsListed (st : Store) (l : List FaultEntry) : Prop where
  room : l.length ≤ 32
  order : l.Pairwise (fun x y => st.distance x.slot < st.distance y.slot)
  attempts : ∀ e ∈ l, e.attempts ≤ 3
  held : ∀ e ∈ l, ∃ i x, e.Marks st i x
  listed : ∀ i x, st.slots[i]? = some x → x.listed = true → ∃ e ∈ l, e.slot = st.physical i

theorem faultLaw_iff (s : State) : FaultLaw s ↔ FaultsListed s.store s.faults := by
  constructor
  · rintro ⟨room, order, held, listed⟩
    refine ⟨room, order, fun e he => (held e he).1, fun e he => ?_, fun i x hi hl => ?_⟩
    · obtain ⟨_, x, hx, ⟨slot, address, segment⟩, damaged, mark⟩ := held e he
      exact ⟨x.2, x.1, List.mem_zipIdx_iff_getElem?.1 hx, slot, address, segment, damaged, mark⟩
    · exact listed (x, i) (List.mem_zipIdx_iff_getElem?.2 hi) hl
  · rintro ⟨room, order, attempts, held, listed⟩
    refine ⟨room, order, fun e he => ⟨attempts e he, ?_⟩, fun x hx hl => ?_⟩
    · obtain ⟨i, x, m⟩ := held e he
      exact ⟨(x, i), List.mem_zipIdx_iff_getElem?.2 m.held, ⟨m.slot, m.address, m.segment⟩, m.damaged, m.listed⟩
    · exact listed x.2 x.1 (List.mem_zipIdx_iff_getElem?.1 hx) hl

end Sys2Proof.Machine
end

section
/-! SUPPORT. What each move of the store keeps of its laws. -/

namespace Sys2Proof.Machine

theorem getElem?_append_eq_some {l m : List Slot} {i : Nat} {x : Slot} :
    (l ++ m)[i]? = some x ↔ l[i]? = some x ∨ (l.length ≤ i ∧ m[i - l.length]? = some x) := by
  rcases Nat.lt_or_ge i l.length with low | high
  · rw [List.getElem?_append_left low]
    exact ⟨.inl, fun h => h.resolve_right fun h => by omega⟩
  · rw [List.getElem?_append_right high]
    refine ⟨fun h => .inr ⟨high, h⟩, fun h => (h.resolve_left fun h => ?_).2⟩
    exact absurd (List.getElem?_eq_some_iff.1 h).1 (by omega)

/-- An entry's distance is the position of the slot it names (R93). -/
theorem FaultEntry.Marks.distance {e : FaultEntry} {st : Store} {i : Nat} {x : Slot} (m : e.Marks st i x)
    (sound : st.Sound) : st.distance e.slot = i := by
  rw [← m.slot, Store.distance_physical sound.head (sound.lt_depth m.held)]

/-! ### An append -/

/-- A slot put at the tail with its payload (R8, R22). -/
def Store.append (st : Store) (x : Slot) (payload : List Byte) : Store :=
  { st with
    slots := st.slots ++ [x]
    dram := Memory.write st.dram (1920 * st.physical st.slots.length) payload }

theorem Store.Sound.append {st : Store} (h : st.Sound) {x : Slot} {payload : List Byte}
    (room : st.slots.length < st.depth) (new : ∀ y ∈ st.slots, y.address ≠ x.address)
    (check : x.check = none ↔ x.quality = .missing) (size : payload.length = 1920) : (st.append x payload).Sound :=
  { h with
    room := by simpa [Store.append] using room
    addresses := List.pairwise_append.2 ⟨h.addresses, List.pairwise_singleton _ _, by simpa using new⟩
    checks := by simpa [Store.append, or_imp, forall_and] using ⟨h.checks, check⟩
    dram := Memory.write_wf h.dram (by rw [size]; exact h.area _) }

theorem Store.AreasRead.append {st : Store} (h : st.AreasRead) (sound : st.Sound) {x : Slot} {payload : List Byte}
    (room : st.slots.length < st.depth) (check : x.check = some (crc16 payload)) (size : payload.length = 1920) :
    (st.append x payload).AreasRead := by
  intro i y c hi hc
  have sorted := sound.dram.1
  show crc16 (Memory.readArea (Memory.write st.dram _ payload) (st.physical i)) = c
  rcases getElem?_append_eq_some.1 hi with hi | ⟨_, hi⟩
  · have low := (List.getElem?_eq_some_iff.1 hi).1
    rw [Memory.readArea_write_other sorted size fun same =>
      low.ne (Store.physical_inj sound.head (low.trans room) room same)]
    exact h i y c hi hc
  · obtain ⟨rfl, rfl⟩ : i = st.slots.length ∧ x = y := by
      obtain ⟨hlt, hy⟩ := List.getElem?_eq_some_iff.1 hi
      simp at hlt hy; exact ⟨by omega, hy⟩
    rw [Memory.readArea_write_same sorted _ size]
    exact Option.some.inj (check.symm.trans hc)

theorem FaultsListed.append_unlisted {st : Store} {l : List FaultEntry} (h : FaultsListed st l) (more : List Slot)
    (plain : ∀ x ∈ more, x.listed = false) (dram : List Host.Cell) :
    FaultsListed { st with slots := st.slots ++ more, dram := dram } l :=
  { h with
    held := fun e he => by
      obtain ⟨i, x, m⟩ := h.held e he
      exact ⟨i, x, { m with held := getElem?_append_eq_some.2 (.inl m.held) }⟩
    listed := fun i x hi hl => by
      rcases getElem?_append_eq_some.1 hi with hi | ⟨_, hi⟩
      · exact h.listed i x hi hl
      · rw [plain x (List.mem_of_getElem? hi)] at hl; cases hl }

theorem FaultsListed.append_listed {st : Store} {l : List FaultEntry} (h : FaultsListed st l) (sound : st.Sound)
    {x : Slot} (payload : List Byte) (free : st.slots.length < st.depth) (room : l.length < 32)
    (damaged : x.quality = .damaged) (listed : x.listed = true) :
    FaultsListed (st.append x payload) (l ++ [⟨st.physical st.slots.length, x.address, x.segment, 0⟩]) where
  room := by simpa using room
  order := by
    refine List.pairwise_append.2 ⟨h.order, List.pairwise_singleton _ _, fun e he e' he' => ?_⟩
    obtain ⟨i, y, m⟩ := h.held e he
    have low := (List.getElem?_eq_some_iff.1 m.held).1
    show st.distance e.slot < st.distance e'.slot
    rw [List.mem_singleton.1 he', m.distance sound, Store.distance_physical sound.head free]
    exact low
  attempts := by simpa [or_imp, forall_and] using h.attempts
  held := fun e he => by
    rcases List.mem_append.1 he with he | he
    · obtain ⟨i, y, m⟩ := h.held e he
      exact ⟨i, y, { m with held := getElem?_append_eq_some.2 (.inl m.held) }⟩
    · rw [List.mem_singleton.1 he]
      exact ⟨_, x, List.getElem?_concat_length, rfl, rfl, rfl, damaged, listed⟩
  listed := fun i y hi hl => by
    rcases getElem?_append_eq_some.1 hi with hi | ⟨high, hi⟩
    · obtain ⟨e, he, slot⟩ := h.listed i y hi hl
      exact ⟨e, List.mem_append_left _ he, slot⟩
    · obtain ⟨hlt, -⟩ := List.getElem?_eq_some_iff.1 hi
      obtain rfl : i = st.slots.length := by simp at hlt; omega
      exact ⟨_, List.mem_append_right _ (List.mem_singleton_self _), rfl⟩

/-! ### A placeholder run -/

/-- A slot of a placeholder run (R10). -/
theorem mem_missingRun {first k : Nat} {seg : SegmentIndex} {x : Slot} (h : x ∈ missingRun first k seg) :
    ∃ i < k, x = ⟨first + i, seg, .missing, false, none, false⟩ := by
  obtain ⟨i, hi, rfl⟩ := List.mem_map.1 h
  exact ⟨i, List.mem_range.1 hi, rfl⟩

theorem Store.pushRun_eq (st : Store) (first k : Nat) (seg : SegmentIndex) :
    st.pushRun first k seg = { st with slots := st.slots ++ missingRun first k seg } := rfl

theorem pairwise_missingRun (first k : Nat) (seg : SegmentIndex) :
    (missingRun first k seg).Pairwise (fun x y => x.address ≠ y.address) :=
  List.pairwise_map.2 (List.nodup_range.imp fun ne same => ne (Nat.add_left_cancel same))

theorem Store.Sound.pushRun {st : Store} (h : st.Sound) {first k : Nat} (admits : st.admitsRun first k = true)
    (seg : SegmentIndex) : (st.pushRun first k seg).Sound := by
  obtain ⟨room, apart⟩ := (Store.admitsRun_iff _ _ _).1 admits
  rw [Store.pushRun_eq]
  exact { h with
    room := by simpa [missingRun] using room
    addresses := List.pairwise_append.2 ⟨h.addresses, pairwise_missingRun first k seg, fun x hx y hy => by
      obtain ⟨i, hi, rfl⟩ := mem_missingRun hy
      rcases apart x hx with below | above
      · exact Nat.ne_of_lt (Nat.lt_add_right i below)
      · exact Nat.ne_of_gt ((Nat.add_lt_add_left hi first).trans_le above)⟩
    checks := fun x hx => by
      rcases List.mem_append.1 hx with hx | hx
      · exact h.checks x hx
      · obtain ⟨i, _, rfl⟩ := mem_missingRun hx; simp }

theorem Store.AreasRead.pushRun {st : Store} (h : st.AreasRead) (first k : Nat) (seg : SegmentIndex) :
    (st.pushRun first k seg).AreasRead := by
  intro i x c hi hc
  rcases getElem?_append_eq_some.1 hi with hi | ⟨_, hi⟩
  · exact h i x c hi hc
  · obtain ⟨j, _, rfl⟩ := mem_missingRun (List.mem_of_getElem? hi); cases hc

theorem FaultsListed.pushRun {st : Store} {l : List FaultEntry} (h : FaultsListed st l) (first k : Nat)
    (seg : SegmentIndex) : FaultsListed (st.pushRun first k seg) l :=
  h.append_unlisted _ (fun x hx => by obtain ⟨i, _, rfl⟩ := mem_missingRun hx; rfl) st.dram

/-! ### The cut mark of a give-up -/

theorem Store.markTail_getElem? (st : Store) (i : Nat) : st.markTail.slots[i]?
    = st.slots[i]?.map (fun x => if st.slots.length - 1 = i then { x with cutAfter := true } else x) :=
  List.getElem?_modify ..

/-- The cut mark changes nothing that the laws of the store and of the Fault List read. -/
theorem Store.markTail_slot {st : Store} {i : Nat} {y : Slot} (h : st.markTail.slots[i]? = some y) :
    ∃ x, st.slots[i]? = some x ∧ ∃ cut, y = { x with cutAfter := cut } := by
  rw [Store.markTail_getElem?] at h
  obtain ⟨x, hx, rfl⟩ := Option.map_eq_some_iff.1 h
  refine ⟨x, hx, ?_⟩
  split
  · exact ⟨true, rfl⟩
  · exact ⟨x.cutAfter, rfl⟩

theorem Store.slot_markTail {st : Store} {i : Nat} {x : Slot} (h : st.slots[i]? = some x) :
    ∃ cut, st.markTail.slots[i]? = some { x with cutAfter := cut } := by
  rw [Store.markTail_getElem?, h, Option.map_some]
  split
  · exact ⟨true, rfl⟩
  · exact ⟨x.cutAfter, rfl⟩

theorem Store.Sound.markTail {st : Store} (h : st.Sound) : st.markTail.Sound :=
  { h with
    room := by simpa [Store.markTail] using h.room
    addresses := by
      have same : st.markTail.slots.map Slot.address = st.slots.map Slot.address := by
        apply List.ext_getElem?; intro i
        rw [List.getElem?_map, List.getElem?_map, Store.markTail_getElem?, Option.map_map]
        congr 1; funext x; simp only [Function.comp]; split <;> rfl
      rw [← List.pairwise_map (R := (· ≠ ·)), same, List.pairwise_map]
      exact h.addresses
    checks := fun y hy => by
      obtain ⟨i, hi⟩ := List.mem_iff_getElem?.1 hy
      obtain ⟨x, hx, cut, rfl⟩ := Store.markTail_slot hi
      exact h.checks x (List.mem_of_getElem? hx) }

theorem Store.AreasRead.markTail {st : Store} (h : st.AreasRead) : st.markTail.AreasRead := by
  intro i y c hi hc
  obtain ⟨x, hx, cut, rfl⟩ := Store.markTail_slot hi
  exact h i x c hx hc

theorem FaultsListed.markTail {st : Store} {l : List FaultEntry} (h : FaultsListed st l) :
    FaultsListed st.markTail l :=
  { h with
    held := fun e he => by
      obtain ⟨i, x, m⟩ := h.held e he
      obtain ⟨cut, marked⟩ := Store.slot_markTail m.held
      exact ⟨i, _, { m with held := marked }⟩
    listed := fun i y hi hl => by
      obtain ⟨x, hx, cut, rfl⟩ := Store.markTail_slot hi
      exact h.listed i x hx hl }

/-! ### A consume and a repair take an entry away -/

theorem mem_removeFault {l : List FaultEntry} {slot : Nat} {e : FaultEntry} :
    e ∈ removeFault l slot ↔ e ∈ l ∧ e.slot ≠ slot := by
  simp [removeFault, List.mem_filter]

/-- No entry names a slot that is not listed. -/
theorem FaultsListed.removeFault_unlisted {st : Store} {l : List FaultEntry} (h : FaultsListed st l)
    (sound : st.Sound) {i : Nat} {x : Slot} (hi : st.slots[i]? = some x) (plain : x.listed = false) :
    removeFault l (st.physical i) = l := by
  refine List.filter_eq_self.2 fun e he => bne_iff_ne.2 fun same => ?_
  obtain ⟨j, y, m⟩ := h.held e he
  obtain rfl : j = i :=
    Store.physical_inj sound.head (sound.lt_depth m.held) (sound.lt_depth hi) (m.slot.trans same)
  have := m.listed
  rw [Option.some.inj (m.held.symm.trans hi), plain] at this
  cases this

theorem Store.Sound.dropHead {st : Store} (h : st.Sound) : st.dropHead.Sound :=
  { h with
    room := (by simp : st.slots.tail.length ≤ st.slots.length).trans h.room
    head := Nat.mod_lt _ (Nat.zero_lt_of_lt h.head)
    addresses := h.addresses.tail
    checks := fun x hx => h.checks x (List.mem_of_mem_tail hx) }

theorem Store.dropHead_getElem? (st : Store) (i : Nat) : st.dropHead.slots[i]? = st.slots[i + 1]? :=
  List.getElem?_tail

theorem Store.AreasRead.dropHead {st : Store} (h : st.AreasRead) : st.dropHead.AreasRead := by
  intro i x c hi hc
  rw [Store.physical_dropHead]
  exact h (i + 1) x c (st.dropHead_getElem? i ▸ hi) hc

theorem FaultsListed.dropHead {st : Store} {l : List FaultEntry} (h : FaultsListed st l) (sound : st.Sound) :
    FaultsListed st.dropHead (removeFault l st.head) := by
  have zero : st.physical 0 = st.head := Store.physical_zero sound.head
  have moved : ∀ e ∈ removeFault l st.head, ∃ i x, e.Marks st.dropHead i x ∧ st.distance e.slot = i + 1 := by
    intro e he
    obtain ⟨he, other⟩ := mem_removeFault.1 he
    obtain ⟨j, x, m⟩ := h.held e he
    obtain _ | i := j
    · exact absurd (m.slot.symm.trans zero) other
    · exact ⟨i, x, { m with
        held := (st.dropHead_getElem? i).trans m.held
        slot := (st.physical_dropHead i).trans m.slot }, m.distance sound⟩
  exact {
    room := (List.length_filter_le _ _).trans h.room
    order := (h.order.filter _).imp_of_mem fun {a b} ha hb lt => by
      obtain ⟨i, x, ma, da⟩ := moved a ha
      obtain ⟨j, y, mb, db⟩ := moved b hb
      rw [ma.distance sound.dropHead, mb.distance sound.dropHead]
      omega
    attempts := fun e he => h.attempts e (mem_removeFault.1 he).1
    held := fun e he => let ⟨i, x, m, _⟩ := moved e he; ⟨i, x, m⟩
    listed := fun i x hi hl => by
      rw [Store.dropHead_getElem?] at hi
      obtain ⟨e, he, slot⟩ := h.listed (i + 1) x hi hl
      refine ⟨e, mem_removeFault.2 ⟨he, fun same => ?_⟩, slot.trans (st.physical_dropHead i).symm⟩
      have : i + 1 = 0 := Store.physical_inj sound.head (sound.lt_depth hi) (Nat.zero_lt_of_lt sound.head)
        (slot.symm.trans (same.trans zero.symm))
      omega }

/-- The slot at a position repaired in place (R14, R102, R103). -/
def Store.repair (st : Store) (i : Nat) (x : Slot) (payload : List Byte) : Store :=
  { st with
    slots := st.slots.set i x
    dram := Memory.write st.dram (1920 * st.physical i) payload }

theorem Store.repair_slot {st : Store} {i j : Nat} {x y z : Slot} {payload : List Byte} (hi : st.slots[i]? = some x)
    (h : (st.repair i y payload).slots[j]? = some z) : (j = i ∧ z = y) ∨ (j ≠ i ∧ st.slots[j]? = some z) := by
  have low := (List.getElem?_eq_some_iff.1 hi).1
  by_cases same : i = j
  · subst same
    rw [Store.repair, List.getElem?_set_self low] at h
    exact .inl ⟨rfl, (Option.some.inj h).symm⟩
  · rw [Store.repair, List.getElem?_set_ne same] at h
    exact .inr ⟨fun h => same h.symm, h⟩

theorem Store.Sound.repair {st : Store} (h : st.Sound) {i : Nat} {x y : Slot} {payload : List Byte}
    (hi : st.slots[i]? = some x) (address : y.address = x.address) (check : y.check = none ↔ y.quality = .missing)
    (size : payload.length = 1920) : (st.repair i y payload).Sound :=
  { h with
    room := by simpa [Store.repair] using h.room
    addresses := by
      have same : (st.slots.set i y).map Slot.address = st.slots.map Slot.address := by
        obtain ⟨low, rfl⟩ := List.getElem?_eq_some_iff.1 hi
        rw [List.map_set, address, ← List.getElem_map Slot.address (h := by simpa using low), List.set_getElem_self]
      show (st.slots.set i y).Pairwise _
      rw [← List.pairwise_map (R := (· ≠ ·)), same, List.pairwise_map]
      exact h.addresses
    checks := fun z hz => by
      rcases List.mem_or_eq_of_mem_set hz with hz | rfl
      · exact h.checks z hz
      · exact check
    dram := Memory.write_wf h.dram (by rw [size]; exact h.area _) }

theorem Store.AreasRead.repair {st : Store} (h : st.AreasRead) (sound : st.Sound) {i : Nat} {x y : Slot}
    {payload : List Byte} (hi : st.slots[i]? = some x) (check : y.check = some (crc16 payload))
    (size : payload.length = 1920) : (st.repair i y payload).AreasRead := by
  intro j z c hj hc
  have sorted := sound.dram.1
  show crc16 (Memory.readArea (Memory.write st.dram _ payload) (st.physical j)) = c
  rcases Store.repair_slot hi hj with ⟨rfl, rfl⟩ | ⟨other, hj⟩
  · rw [Memory.readArea_write_same sorted _ size]
    exact Option.some.inj (check.symm.trans hc)
  · rw [Memory.readArea_write_other sorted size fun same =>
      other (Store.physical_inj sound.head (sound.lt_depth hj) (sound.lt_depth hi) same)]
    exact h j z c hj hc

theorem FaultsListed.repair {st : Store} {l : List FaultEntry} (h : FaultsListed st l) (sound : st.Sound) {i : Nat}
    {x y : Slot} (payload : List Byte) (hi : st.slots[i]? = some x) (plain : y.listed = false) :
    FaultsListed (st.repair i y payload) (removeFault l (st.physical i)) where
  room := (List.length_filter_le _ _).trans h.room
  order := h.order.filter _
  attempts := fun e he => h.attempts e (mem_removeFault.1 he).1
  held := fun e he => by
    obtain ⟨he, other⟩ := mem_removeFault.1 he
    obtain ⟨j, z, m⟩ := h.held e he
    have apart : i ≠ j := by rintro rfl; exact other m.slot.symm
    exact ⟨j, z, { m with held := (List.getElem?_set_ne apart).trans m.held }⟩
  listed := fun j z hj hl => by
    rcases Store.repair_slot hi hj with ⟨rfl, rfl⟩ | ⟨other, hj⟩
    · rw [plain] at hl; cases hl
    · obtain ⟨e, he, slot⟩ := h.listed j z hj hl
      refine ⟨e, mem_removeFault.2 ⟨he, fun same => other ?_⟩, slot⟩
      exact Store.physical_inj sound.head (sound.lt_depth hj) (sound.lt_depth hi) (slot.symm.trans same)

/-! ### An attempt counted, an empty store, the DRAM's loss -/

/-- The entries an attempt is counted on are those of one held block, which had attempts left. -/
theorem FaultsListed.countAttempt {st : Store} {l : List FaultEntry} (h : FaultsListed st l) (f : FaultRef)
    (left : ∀ e ∈ l, e.address = f.address → e.attempts < 3) : FaultsListed st (countAttempt l f) := by
  have counted : ∀ e' ∈ Machine.countAttempt l f, ∃ e ∈ l, e'.slot = e.slot ∧ e'.address = e.address
      ∧ e'.segment = e.segment ∧ e'.attempts ≤ 3 := by
    intro e' he'
    obtain ⟨e, he, rfl⟩ := List.mem_map.1 he'
    refine ⟨e, he, ?_⟩
    split
    · rename_i same; exact ⟨rfl, rfl, rfl, left e he same.1⟩
    · exact ⟨rfl, rfl, rfl, h.attempts e he⟩
  exact {
    room := by simpa [Machine.countAttempt] using h.room
    order := List.pairwise_map.2 (h.order.imp fun {a b} lt => by split <;> split <;> exact lt)
    attempts := fun e' he' => let ⟨_, _, _, _, _, bound⟩ := counted e' he'; bound
    held := fun e' he' => by
      obtain ⟨e, he, slot, address, segment, _⟩ := counted e' he'
      obtain ⟨i, x, m⟩ := h.held e he
      exact ⟨i, x, m.held, m.slot.trans slot.symm, m.address.trans address.symm, m.segment.trans segment.symm,
        m.damaged, m.listed⟩
    listed := fun i x hi hl => by
      obtain ⟨e, he, slot⟩ := h.listed i x hi hl
      refine ⟨_, List.mem_map_of_mem he, ?_⟩
      split <;> exact slot }

theorem FaultsListed.of_empty {st : Store} (h : st.slots = []) : FaultsListed st [] where
  room := Nat.zero_le _
  order := .nil
  attempts := fun _ h => by cases h
  held := fun _ h => by cases h
  listed := fun i x hi => by rw [h] at hi; cases hi

theorem FaultsListed.eq_nil {st : Store} {l : List FaultEntry} (h : FaultsListed st l) (empty : st.slots = []) :
    l = [] := by
  refine List.eq_nil_iff_forall_not_mem.2 fun e he => ?_
  obtain ⟨i, x, m⟩ := h.held e he
  have := m.held
  rw [empty] at this; cases this

theorem Store.AreasRead.of_empty {st : Store} (h : st.slots = []) : st.AreasRead := by
  intro i x c hi; rw [h] at hi; cases hi

/-- Whatever record forms the depth and the marks, an empty store is sound under them (R4, R18). -/
theorem Store.sound_form {st : Store} (empty : st.slots = []) (head : st.head = 0) (dram : Memory.wf st.dram)
    (received : Nat) (c : ConfigRecord) : (st.form received c).Sound := by
  have ⟨low, high, step⟩ := formDepth_bounds received
  have ⟨positive, below⟩ := formHighWater_bounds c.highMargin low
  have ⟨start_low, start_high⟩ := formStart_bounds c.start positive
  exact {
    depth_low := low, depth_high := high, depth_step := step
    room := by simp [Store.form, empty]
    head := by show st.head < formDepth received; omega
    refill := formRefill_lt c.refill positive
    high := below, start_low := start_low, start_high := start_high
    addresses := by simp [Store.form, empty]
    checks := by simp [Store.form, empty]
    dram := dram }

theorem Store.Sound.flush {st : Store} (h : st.Sound) (c : ConfigRecord) : (st.flush c).Sound :=
  Store.sound_form (st := { st with slots := [], head := 0 }) rfl rfl h.dram _ c

theorem Store.Sound.withDram {st : Store} (h : st.Sound) {d : List Host.Cell} (hd : Memory.wf d) :
    { st with dram := d }.Sound := { h with dram := hd }

/-- The Fault List reads the ring alone: not the marks, not the memory. -/
theorem FaultsListed.of_ring {st u : Store} {l : List FaultEntry} (h : FaultsListed st l) (slots : u.slots = st.slots)
    (head : u.head = st.head) (depth : u.depth = st.depth) : FaultsListed u l := by
  have physical : u.physical = st.physical := by funext i; rw [Store.physical, Store.physical, head, depth]
  have distance : u.distance = st.distance := by funext i; rw [Store.distance, Store.distance, head, depth]
  exact { h with
    order := by rw [distance]; exact h.order
    held := fun e he => by
      obtain ⟨i, x, m⟩ := h.held e he
      exact ⟨i, x, { m with held := by rw [slots]; exact m.held, slot := by rw [physical]; exact m.slot }⟩
    listed := by rw [slots, physical]; exact h.listed }

end Sys2Proof.Machine
end

section
/-! SUPPORT. Play order (R6) over the list of held slots. -/

namespace Sys2Proof.Machine

/-! ### Play order -/

theorem isChain_iff_zip {R : Slot → Slot → Prop} (l : List Slot) :
    l.IsChain R ↔ ∀ x ∈ l.zip l.tail, R x.1 x.2 := by
  induction l with
  | nil => simp
  | cons x l ih =>
    cases l with
    | nil => simp
    | cons y l => rw [List.isChain_cons_cons, ih]; simp

/-- Play order of the held slots (R6). -/
structure InOrder (t : Tables) (l : List Slot) : Prop where
  follow : l.IsChain (fun x y => x.leadsTo t y.segment y.address)
  within : ∀ x ∈ l, (t.entry x.segment).first ≤ x.address ∧ x.address ≤ (t.entry x.segment).last

/-- E stands in the fill segment, behind the tail (R6). -/
structure Tracker.Behind (k : Tracker) (t : Tables) (l : List Slot) : Prop where
  low : (t.entry k.segment).first ≤ k.expected
  high : k.expected ≤ (t.entry k.segment).last
  tail : ∀ x ∈ l.getLast?, x.leadsTo t k.segment k.expected

/-- The tail, where a slot is held, is the block at an address of a segment, with no cut after it. -/
def TailAt (l : List Slot) (segment : SegmentIndex) (a : Addr) : Prop :=
  ∀ x ∈ l.getLast?, x.address = a ∧ x.segment = segment ∧ x.cutAfter = false

/-- The tail, where a slot is held, ends its segment's visit (R6). -/
def TailEnds (t : Tables) (l : List Slot) : Prop := ∀ x ∈ l.getLast?, x.endsVisit t

/-- What follows the block at an address within its segment is the next address (R6). -/
theorem Slot.leadsTo_next (t : Tables) {x : Slot} (cut : x.cutAfter = false)
    (inside : x.address ≠ (t.entry x.segment).last) : x.leadsTo t x.segment (x.address + 1) :=
  .inr ⟨by simp [cut, inside], rfl, rfl⟩

theorem InOrder.nil (t : Tables) : InOrder t [] := ⟨.nil, fun _ h => by cases h⟩

theorem InOrder.tail {t : Tables} {l : List Slot} (h : InOrder t l) : InOrder t l.tail :=
  ⟨h.follow.tail, fun x hx => h.within x (List.mem_of_mem_tail hx)⟩

theorem getLast?_tail {l : List Slot} {x : Slot} (h : x ∈ l.tail.getLast?) : x ∈ l.getLast? := by
  rw [List.getLast?_tail] at h
  split at h
  · cases h
  · exact h

/-- A block, or a run of blocks, put behind the tail where it leads (R6). -/
theorem InOrder.append {t : Tables} {l more : List Slot} (h : InOrder t l) (h' : InOrder t more)
    (joined : ∀ x ∈ l.getLast?, ∀ y ∈ more.head?, x.leadsTo t y.segment y.address) : InOrder t (l ++ more) :=
  ⟨List.isChain_append.2 ⟨h.follow, h'.follow, joined⟩, fun x hx =>
    (List.mem_append.1 hx).elim (h.within x) (h'.within x)⟩

theorem InOrder.singleton {t : Tables} {x : Slot} (low : (t.entry x.segment).first ≤ x.address)
    (high : x.address ≤ (t.entry x.segment).last) : InOrder t [x] :=
  ⟨.singleton x, fun _ hy => List.mem_singleton.1 hy ▸ ⟨low, high⟩⟩

/-- A placeholder run inside its segment is in play order (R6, R10). -/
theorem InOrder.missingRun {t : Tables} {first k : Nat} {seg : SegmentIndex} (low : (t.entry seg).first ≤ first)
    (high : first + k ≤ (t.entry seg).last + 1) : InOrder t (missingRun first k seg) := by
  constructor
  · rw [List.isChain_iff_getElem]
    intro i hi
    have len : i + 1 < k := by simpa [Machine.missingRun] using hi
    simp only [Machine.missingRun, List.getElem_map, List.getElem_range]
    refine Slot.leadsTo_next t (x := ⟨first + i, seg, .missing, false, none, false⟩) rfl ?_
    exact Nat.ne_of_lt (show first + i < (t.entry seg).last by omega)
  · intro x hx
    obtain ⟨i, hi, rfl⟩ := mem_missingRun hx
    exact ⟨low.trans (Nat.le_add_right first i), show first + i ≤ (t.entry seg).last by omega⟩

theorem tailAt_append (l : List Slot) {x : Slot} (cut : x.cutAfter = false) :
    TailAt (l ++ [x]) x.segment x.address := by
  intro y hy
  rw [List.getLast?_concat] at hy
  cases hy
  exact ⟨rfl, rfl, cut⟩

theorem tailAt_missingRun (l : List Slot) (first : Nat) {k : Nat} (seg : SegmentIndex) (pos : 1 ≤ k) :
    TailAt (l ++ missingRun first k seg) seg (first + k - 1) := by
  obtain ⟨k, rfl⟩ := Nat.exists_eq_add_of_le' pos
  rw [missingRun, List.range_succ, List.map_append, ← List.append_assoc]
  exact tailAt_append _ (x := ⟨first + k, seg, .missing, false, none, false⟩) rfl

theorem head?_missingRun {first k : Nat} {seg : SegmentIndex} {y : Slot} (h : y ∈ (missingRun first k seg).head?) :
    y.segment = seg ∧ y.address = first := by
  cases k with
  | zero => cases h
  | succ k =>
    rw [missingRun, List.range_succ_eq_map, List.map_cons, List.head?_cons] at h
    cases h
    exact ⟨rfl, rfl⟩

/-- The cut mark ends the visit of the tail and leaves play order as it was (R6, R11). -/
theorem InOrder.markTail {t : Tables} {st : Store} (h : InOrder t st.slots) :
    InOrder t st.markTail.slots ∧ TailEnds t st.markTail.slots := by
  rcases List.eq_nil_or_concat st.slots with empty | ⟨front, x, held⟩
  · have : st.markTail.slots = [] := by simp [Store.markTail, empty]
    rw [this]
    exact ⟨.nil t, fun _ h => by cases h⟩
  · rw [Store.markTail_append st front x (by simpa using held)]
    rw [held, List.concat_eq_append] at h
    obtain ⟨front_order, -, joined⟩ := List.isChain_append.1 h.follow
    refine ⟨⟨List.isChain_append.2 ⟨front_order, .singleton _, ?_⟩, ?_⟩, ?_⟩
    · intro y hy z hz
      cases hz
      exact joined y hy x rfl
    · intro y hy
      rcases List.mem_append.1 hy with hy | hy
      · exact h.within y (List.mem_append_left _ hy)
      · rw [List.mem_singleton.1 hy]
        exact h.within x (List.mem_append_right _ (List.mem_singleton_self x))
    · intro y hy
      rw [List.getLast?_concat] at hy
      cases hy
      exact .inr rfl

/-- What play order reads of a slot. -/
def Slot.place (x : Slot) : Addr × SegmentIndex × Bool := (x.address, x.segment, x.cutAfter)

theorem Slot.place_eq_iff {x y : Slot} : y.place = x.place
    ↔ y.address = x.address ∧ y.segment = x.segment ∧ y.cutAfter = x.cutAfter := by
  simp [Slot.place]

theorem Slot.leadsTo_of_place {t : Tables} {x y : Slot} {seg : SegmentIndex} {a : Addr} (same : y.place = x.place)
    (h : x.leadsTo t seg a) : y.leadsTo t seg a := by
  obtain ⟨address, segment, cut⟩ := Slot.place_eq_iff.1 same
  simpa only [Slot.leadsTo, Slot.endsVisit, address, segment, cut] using h

theorem InOrder.of_places {t : Tables} {l m : List Slot} (h : InOrder t l)
    (same : m.map Slot.place = l.map Slot.place) : InOrder t m := by
  have length : m.length = l.length := by simpa using congrArg List.length same
  have place (i : Nat) (hi : i < m.length) : m[i].place = (l[i]'(length ▸ hi)).place := by
    have := List.getElem_of_eq same (i := i) (by simpa using hi)
    simpa using this
  constructor
  · rw [List.isChain_iff_getElem]
    intro i hi
    have lead := Slot.leadsTo_of_place (place i (by omega)) (List.isChain_iff_getElem.1 h.follow i (by omega))
    obtain ⟨address, segment, -⟩ := Slot.place_eq_iff.1 (place (i + 1) hi)
    rw [address, segment]
    exact lead
  · intro x hx
    obtain ⟨i, hi, rfl⟩ := List.mem_iff_getElem.1 hx
    obtain ⟨address, segment, -⟩ := Slot.place_eq_iff.1 (place i hi)
    rw [address, segment]
    exact h.within _ (List.getElem_mem _)

theorem Tracker.Behind.of_places {k : Tracker} {t : Tables} {l m : List Slot} (h : k.Behind t l)
    (same : m.map Slot.place = l.map Slot.place) : k.Behind t m :=
  { h with
    tail := fun x hx => by
      have last := congrArg List.getLast? same
      rw [List.getLast?_map, List.getLast?_map, Option.mem_def.1 hx] at last
      obtain ⟨y, hy, place⟩ := Option.map_eq_some_iff.1 last.symm
      exact Slot.leadsTo_of_place place.symm (h.tail y hy) }

/-- A slot set anew at its own place changes no place. -/
theorem map_place_set {l : List Slot} {i : Nat} {x y : Slot} (hi : l[i]? = some x) (same : y.place = x.place) :
    (l.set i y).map Slot.place = l.map Slot.place := by
  obtain ⟨low, rfl⟩ := List.getElem?_eq_some_iff.1 hi
  rw [List.map_set, same, ← List.getElem_map Slot.place (h := by simpa using low), List.set_getElem_self]

/-! ### The tables -/

theorem TableLaw.entry {s : State} (h : TableLaw s) (seg : SegmentIndex) :
    (s.table.entry seg).first ≤ (s.table.entry seg).last ∧ (s.table.entry seg).last < Config.addressCount :=
  h.1 _ (Vector.mem_toList_iff.2 (Vector.getElem_mem seg.isLt))

theorem TableLaw.config {s : State} (h : TableLaw s) : 1 ≤ s.table.config.skipAhead
    ∧ s.table.config.abandonLimit ≤ 7 ∧ s.table.config.attemptLimit ≤ 3 := by
  obtain ⟨-, -, -, -, -, skip, abandon, attempt, -⟩ := h
  exact ⟨skip.1, abandon.2, attempt.2⟩

end Sys2Proof.Machine
end

section
/-! SUPPORT. The laws that every step keeps, gathered: what holds of the store whatever the fill does, and of the fill. -/

namespace Sys2Proof.Machine

theorem InOrder.of_entries {t u : Tables} {l : List Slot} (h : InOrder t l)
    (same : ∀ x ∈ l, u.entry x.segment = t.entry x.segment) : InOrder u l := by
  refine ⟨List.isChain_iff_getElem.2 fun i hi => ?_, fun x hx => same x hx ▸ h.within x hx⟩
  simp only [Slot.leadsTo, Slot.endsVisit, same _ (List.getElem_mem _)]
  exact List.isChain_iff_getElem.1 h.follow i hi

theorem Tracker.Behind.of_entries {k : Tracker} {t u : Tables} {l : List Slot} (h : k.Behind t l)
    (fill : u.entry k.segment = t.entry k.segment) (same : ∀ x ∈ l, u.entry x.segment = t.entry x.segment) :
    k.Behind u l where
  low := fill ▸ h.low
  high := fill ▸ h.high
  tail := fun x hx => by
    simp only [Slot.leadsTo, Slot.endsVisit, fill, same x (List.mem_of_getLast? hx)]
    exact h.tail x hx

/-! ### The recovery context -/

/-- `FillLaw` but for the consecutive-append count, clause by clause: the recovery context beside the watchdog, the
retry limit and the play state HALTED. -/
structure Recovery.Sound (f : Recovery) (armed : Bool) (watchdog limit : Nat) (stopped : Prop) : Prop where
  watching : armed = f.state.recovering
  counter : watchdog ≤ 3
  disarmed : armed = false → watchdog = 0
  outstanding : f.outstanding = if f.state = .seeking then some f.tag else none
  active : f.state ≠ .halted → f.active.isSome = f.state.recovering
  fault : ∀ a ∈ f.active, (a.fault.isSome = true ↔ a.reason = .repair)
  idle : f.state ≠ .halted → f.state.recovering = false → f.retry = 0
  retry : f.retry ≤ limit
  owed : f.owed.isSome = true ↔ f.state = .abandonWait
  abandon : f.abandon ≤ 8
  filling : f.state.filling = true → f.abandon ≤ 7
  halted : stopped ↔ f.state = .halted

/-- The recovery context of a state is sound. -/
def State.FillSound (s : State) : Prop :=
  s.fill.Sound s.timer.armed s.timer.watchdog s.table.config.retryLimit (s.out.play = .halted)

theorem fillLaw_iff (s : State) : FillLaw s ↔ s.FillSound ∧ s.track.run ≤ 255 := by
  constructor
  · rintro ⟨a, b, c, d, e, f, g, h, i, j, k, l, m⟩
    exact ⟨⟨a, b, c, d, e, f, g, h, i, j, k, m⟩, l⟩
  · rintro ⟨⟨a, b, c, d, e, f, g, h, i, j, k, m⟩, l⟩
    exact ⟨a, b, c, d, e, f, g, h, i, j, k, l, m⟩

/-- The context of a seek that has been issued (R62 to R64, R70). -/
theorem Recovery.sound_seeking {tag : Tag} {reason : Reason} {fault : Option FaultRef} {target : Addr}
    {retry abandon limit : Nat} {stopped : Prop} (kind : fault.isSome = true ↔ reason = .repair)
    (within : retry ≤ limit) (few : abandon ≤ 7) (running : ¬ stopped) :
    (⟨.seeking, tag, some tag, some ⟨reason, fault, target⟩, retry, abandon, none⟩ : Recovery).Sound
      true 0 limit stopped where
  watching := rfl
  counter := by decide
  disarmed := fun _ => rfl
  outstanding := rfl
  active := fun _ => rfl
  fault := fun a ha => by cases ha; exact kind
  idle := fun _ h => by cases h
  retry := within
  owed := by simp
  abandon := few.trans (by decide)
  filling := fun _ => few
  halted := by simp [running]

/-- The context of a fill state outside a recovery, a run being owed in ABANDON_WAIT alone (R62, R63, R81). -/
theorem Recovery.sound_resting {f : FillState} {tag : Tag} {abandon limit : Nat} {owed : Option OwedRun}
    {stopped : Prop} (rest : f.recovering = false) (wait : owed.isSome = true ↔ f = .abandonWait)
    (bound : abandon ≤ 8) (few : f.filling = true → abandon ≤ 7) (halted : stopped ↔ f = .halted) :
    (⟨f, tag, none, none, 0, abandon, owed⟩ : Recovery).Sound false 0 limit stopped where
  watching := rest.symm
  counter := by decide
  disarmed := fun _ => rfl
  outstanding := by cases f <;> simp_all [FillState.recovering]
  active := fun _ => rest.symm
  fault := fun a ha => by cases ha
  idle := fun _ _ => rfl
  retry := Nat.zero_le _
  owed := wait
  abandon := bound
  filling := few
  halted := halted

/-- The abandon count goes to 0 (R53, R57). -/
theorem Recovery.Sound.clearAbandon {f : Recovery} {armed : Bool} {watchdog limit : Nat} {stopped : Prop}
    (h : f.Sound armed watchdog limit stopped) : { f with abandon := 0 }.Sound armed watchdog limit stopped :=
  { h with abandon := Nat.zero_le _, filling := fun _ => Nat.zero_le _ }

/-! ### What a step keeps -/

/-- The laws that hold whatever the fill does. `P` says that every payload area still reads back: it is the premise
under which the payloads are kept. -/
structure Stored (P : Prop) (s : State) : Prop where
  store : s.store.Sound
  faults : FaultsListed s.store s.faults
  payload : P → s.store.AreasRead
  order : InOrder s.table s.store.slots
  tables : TableLaw s
  run : s.track.run ≤ 255

/-- The fill may go on at E, by a seek or in another state (R6, R81). -/
structure Poised (P : Prop) (s : State) : Prop extends Stored P s where
  behind : s.track.Behind s.table s.store.slots
  few : s.fill.abandon ≤ 7
  running : s.out.play ≠ .halted

/-- The laws of the store, the Fault List, play order, the fill and the tables, and the payloads under `P`. -/
structure Kept (P : Prop) (s : State) : Prop extends Stored P s where
  behind : s.fill.state.filling = true → s.track.Behind s.table s.store.slots
  owed : ∀ r ∈ s.fill.owed, r.first = s.track.expected ∧ 1 ≤ r.length
    ∧ r.first + r.length ≤ (s.table.entry s.track.segment).last + 1
  expected : s.track.expected < Config.addressCount
  fill : s.FillSound

theorem kept_of_lawful {P : Prop} {s : State} (h : Lawful s) (hp : P → PayloadLaw s) : Kept P s := by
  obtain ⟨store, faults, ⟨follow, within, place, owed, expected⟩, fill, -, -, tables, -, -, -⟩ := h
  obtain ⟨fill, run⟩ := (fillLaw_iff s).1 fill
  exact {
    store := (storeLaw_iff s).1 store
    faults := (faultLaw_iff s).1 faults
    payload := fun p => (payloadLaw_iff s).1 (hp p)
    order := ⟨(isChain_iff_zip _).2 follow, within⟩
    tables := tables
    run := run
    behind := fun going => let ⟨low, high, tail⟩ := place going; ⟨low, high, tail⟩
    owed := owed
    expected := expected
    fill := fill }

theorem Kept.laws {P : Prop} {s : State} (h : Kept P s) :
    StoreLaw s ∧ FaultLaw s ∧ OrderLaw s ∧ FillLaw s ∧ (P → PayloadLaw s) :=
  ⟨(storeLaw_iff s).2 h.store, (faultLaw_iff s).2 h.faults,
    ⟨(isChain_iff_zip _).1 h.order.follow, h.order.within,
      fun going => let b := h.behind going; ⟨b.low, b.high, b.tail⟩, h.owed, h.expected⟩,
    (fillLaw_iff s).2 ⟨h.fill, h.run⟩, fun p => (payloadLaw_iff s).2 (h.payload p)⟩

/-- A fill that goes on may seek. -/
theorem Kept.poised {P : Prop} {s : State} (h : Kept P s) (going : s.fill.state.filling = true) : Poised P s :=
  { h with
    behind := h.behind going
    few := h.fill.filling going
    running := fun stop => by rw [h.fill.halted.1 stop] at going; cases going }

/-! ### The part of the state these laws read -/

/-- The part of the state that the laws in `Kept` read. -/
structure FillView where
  store : Store
  faults : List FaultEntry
  track : Tracker
  fill : Recovery
  armed : Bool
  watchdog : Nat
  playList : Vector PlayEntry 64
  profiles : Vector Profile 4
  config : ConfigRecord
  halted : Bool

def State.view (s : State) : FillView where
  store := s.store
  faults := s.faults
  track := s.track
  fill := s.fill
  armed := s.timer.armed
  watchdog := s.timer.watchdog
  playList := s.table.playList
  profiles := s.table.profiles
  config := s.table.config
  halted := s.out.play == .halted

theorem entry_of_view {s t : State} (same : t.view = s.view) (seg : SegmentIndex) :
    t.table.entry seg = s.table.entry seg := by
  rw [Tables.entry, Tables.entry, show t.table.playList = s.table.playList from congrArg FillView.playList same]

theorem halted_of_view {s t : State} (same : t.view = s.view) : t.out.play = .halted ↔ s.out.play = .halted := by
  have flags : (t.out.play == .halted) = (s.out.play == .halted) := congrArg FillView.halted same
  rw [← beq_iff_eq, flags, beq_iff_eq]

/-- Operations that leave the view leave the laws. -/
theorem Stored.of_view {P : Prop} {s t : State} (h : Stored P s) (same : t.view = s.view) : Stored P t := by
  have entry := entry_of_view same
  simp only [State.view, FillView.mk.injEq] at same
  obtain ⟨store, faults, track, -, -, -, playList, profiles, config, -⟩ := same
  exact {
    store := store ▸ h.store
    faults := by rw [store, faults]; exact h.faults
    payload := fun p => store ▸ h.payload p
    order := by rw [store]; exact h.order.of_entries fun x _ => entry _
    tables := by simpa only [TableLaw, playList, profiles, config] using h.tables
    run := track ▸ h.run }

theorem behind_of_view {s t : State} (same : t.view = s.view) (h : s.track.Behind s.table s.store.slots) :
    t.track.Behind t.table t.store.slots := by
  rw [show t.store = s.store from congrArg FillView.store same,
    show t.track = s.track from congrArg FillView.track same]
  exact h.of_entries (entry_of_view same _) fun x _ => entry_of_view same _

theorem Poised.of_view {P : Prop} {s t : State} (h : Poised P s) (same : t.view = s.view) : Poised P t where
  toStored := h.toStored.of_view same
  behind := behind_of_view same h.behind
  few := by rw [show t.fill = s.fill from congrArg FillView.fill same]; exact h.few
  running := fun stop => h.running ((halted_of_view same).1 stop)

theorem Kept.of_view {P : Prop} {s t : State} (h : Kept P s) (same : t.view = s.view) : Kept P t := by
  have entry := entry_of_view same
  have stored := h.toStored.of_view same
  have behind := behind_of_view same
  have stop := halted_of_view same
  simp only [State.view, FillView.mk.injEq] at same
  obtain ⟨store, -, track, fill, armed, watchdog, -, -, config, -⟩ := same
  exact {
    toStored := stored
    behind := fun going => behind (h.behind (fill ▸ going))
    owed := by rw [fill, track, entry]; exact h.owed
    expected := track ▸ h.expected
    fill := by
      rw [State.FillSound, fill, armed, watchdog, config, stop]
      exact h.fill }

@[simp] theorem State.post_view (s : State) (r : Report) : (s.post r).view = s.view := by
  simp [State.view]

end Sys2Proof.Machine
end

section
/-! SUPPORT. Seeks, the end of a recovery, crossings and give-ups keep the laws. -/

namespace Sys2Proof.Machine

section
variable {P : Prop} {s : State}

/-! ### Seeks -/

/-- A seek issued where the fill may go on (R70). -/
theorem Poised.issue (h : Poised P s) {reason : Reason} {fault : Option FaultRef} {retry : Nat}
    (kind : fault.isSome = true ↔ reason = .repair) (limit : retry ≤ s.table.config.retryLimit) :
    Kept P (s.issue reason fault retry) :=
  { h.toStored with
    behind := fun _ => h.behind
    owed := fun _ hr => by cases hr
    expected := h.behind.high.trans_lt (h.tables.entry _).2
    fill := Recovery.sound_seeking kind limit h.few h.running }

/-- A seek issued for a cause that is no fault's (R70). -/
theorem Poised.issueNew (h : Poised P s) {reason : Reason} (plain : reason ≠ .repair) :
    Kept P (s.issueNew reason none) :=
  h.issue (by simpa using plain) (Nat.zero_le _)

/-- A cause that is no fault's, decided by the arbiter (R66, R67). -/
theorem Kept.raiseCause (h : Kept P s) (going : s.fill.state.filling = true) {reason : Reason}
    (plain : reason ≠ .repair) : Kept P (s.raiseCause reason none) := by
  have seek := (h.poised going).issueNew plain
  rw [State.raiseCause]
  split
  · split
    · split
      · exact seek
      · exact h
    · exact seek
  · exact seek

/-- Two entries that name the same address are one (R7, R93). -/
theorem FaultsListed.entry_unique {st : Store} {l : List FaultEntry} (h : FaultsListed st l) (sound : st.Sound)
    {e f : FaultEntry} (he : e ∈ l) (hf : f ∈ l) (same : e.address = f.address) : e = f := by
  obtain ⟨i, x, me⟩ := h.held e he
  obtain ⟨j, y, mf⟩ := h.held f hf
  have position := sound.position me.held mf.held (me.address.trans (same.trans mf.address.symm))
  have distance : st.distance e.slot = st.distance f.slot := by
    rw [me.distance sound, mf.distance sound, position]
  have apart : (l.map fun e => st.distance e.slot).Nodup := List.pairwise_map.2 (h.order.imp Nat.ne_of_lt)
  exact List.inj_on_of_nodup_map apart he hf distance

/-- A REPAIR evaluation (R69, R97, R98): the attempt is counted on an entry that has one left. -/
theorem Kept.evaluateRepair (h : Kept P s) : Kept P s.evaluateRepair := by
  rw [State.evaluateRepair]
  split
  · rename_i active
    split
    · rename_i e found
      have eligible := List.find?_some found
      have going : s.fill.state.filling = true := by rcases active with a | a <;> rw [a] <;> rfl
      have rest : s.fill.state.recovering = false := by rcases active with a | a <;> rw [a] <;> rfl
      have left : e.attempts < 3 := by
        simp only [State.eligible, Bool.and_eq_true, decide_eq_true_eq] at eligible
        exact eligible.1.2.trans_le h.tables.config.2.2
      have counted := h.faults.countAttempt ⟨e.address, e.segment⟩ fun f hf same =>
        h.faults.entry_unique h.store hf (List.mem_of_find?_eq_some found) same ▸ left
      rw [State.raiseCause, if_neg (by simp [rest])]
      have ready : Poised P { s with faults := countAttempt s.faults ⟨e.address, e.segment⟩ } :=
        { h.poised going with faults := counted }
      exact ready.issue (by simp) (Nat.zero_le _)
    · exact h
  · exact h

/-! ### The end of a recovery -/

/-- A READ_PAUSE leaves the view (R41). -/
@[simp] theorem State.requestPause_view (s : State) : s.requestPause.view = s.view := rfl

/-- TRACKING or PAUSED_FULL entered where the fill may go on (R76, R77, R85). -/
theorem Poised.leaveRecovery (h : Poised P s) {f : FillState} (hf : f = .tracking ∨ f = .pausedFull) :
    Kept P (s.leaveRecovery f) :=
  { h.toStored with
    behind := fun _ => h.behind
    owed := fun _ hr => by cases hr
    expected := h.behind.high.trans_lt (h.tables.entry _).2
    fill := by
      refine Recovery.sound_resting ?_ ?_ (h.few.trans (by decide)) (fun _ => h.few) (iff_of_false h.running ?_) <;>
        rcases hf with rfl | rfl <;> simp [FillState.recovering] }

/-- STOPPED or END entered (R87, R88). -/
theorem Stored.leaveRecovery (h : Stored P s) (expected : s.track.expected < Config.addressCount)
    (abandon : s.fill.abandon ≤ 8) (running : s.out.play ≠ .halted) {f : FillState} (hf : f = .stopped ∨ f = .ended) :
    Kept P (s.leaveRecovery f) :=
  { h with
    behind := fun going => by rcases hf with rfl | rfl <;> cases going
    owed := fun _ hr => by cases hr
    expected := expected
    fill := by
      refine Recovery.sound_resting ?_ ?_ abandon ?_ (iff_of_false running ?_) <;>
        rcases hf with rfl | rfl <;> simp [FillState.recovering, FillState.filling] }

/-- The REFILL issued where its test passes (R86). -/
theorem Kept.refillIfDue (h : Kept P s) : Kept P s.refillIfDue := by
  rw [State.refillIfDue]
  split
  · rename_i due
    simp only [State.refillTest, Bool.and_eq_true, beq_iff_eq] at due
    exact (h.poised (by rw [due.1.1]; rfl)).issueNew (by decide)
  · exact h

/-- PAUSED_FULL entered (R77, R85, R86). -/
theorem Poised.enterPausedFull (h : Poised P s) : Kept P s.enterPausedFull :=
  ((h.leaveRecovery (.inr rfl)).of_view (State.requestPause_view _)).refillIfDue

/-- END entered (R87). -/
theorem Stored.enterEnd (h : Stored P s) (expected : s.track.expected < Config.addressCount)
    (abandon : s.fill.abandon ≤ 8) (running : s.out.play ≠ .halted) : Kept P s.enterEnd := by
  have ended := h.leaveRecovery expected abandon running (.inr rfl : FillState.ended = .stopped ∨ _)
  rw [State.enterEnd]
  split
  · exact ended
  · exact ended.of_view rfl

/-! ### A segment end is crossed -/

/-- The fill moved to a segment behind a tail that ends its visit (R6, R53). -/
theorem Stored.moveTo (h : Stored P s) (ends : TailEnds s.table s.store.slots) (running : s.out.play ≠ .halted)
    (n : SegmentIndex) (usesCue : Bool) : Poised P (s.moveTo n usesCue) :=
  { h with
    order := h.order.of_entries fun _ _ => rfl
    behind := ⟨Nat.le_refl _, (h.tables.entry n).1, fun x hx => .inl ⟨ends x hx, rfl⟩⟩
    few := Nat.zero_le 7
    running := running }

/-- The tail at the end address of its segment ends the visit (R6). -/
theorem TailAt.ends {t : Tables} {l : List Slot} {seg : SegmentIndex} {a : Addr} (h : TailAt l seg a)
    (last : a = (t.entry seg).last) : TailEnds t l := fun x hx => by
  obtain ⟨address, segment, -⟩ := h x hx
  exact .inl (by rw [address, segment, last])

/-- E moved on behind a tail at an address before the segment's end (R6, R47). -/
theorem TailAt.next {t : Tables} {l : List Slot} {seg : SegmentIndex} {a : Addr} (h : TailAt l seg a)
    (inside : a ≠ (t.entry seg).last) (low : (t.entry seg).first ≤ a) (high : a ≤ (t.entry seg).last) (run : Nat) :
    (⟨a + 1, seg, run⟩ : Tracker).Behind t l where
  low := Nat.le_succ_of_le low
  high := Nat.lt_of_le_of_ne high inside
  tail := fun x hx => by
    obtain ⟨rfl, rfl, cut⟩ := h x hx
    exact Slot.leadsTo_next t cut inside

/-- The block at E has been put at the tail, and E goes on: past it, or by a crossing (R47, R53 to R55). -/
theorem Stored.moveOn (h : Stored P s) (fill : s.FillSound) (going : s.fill.state.filling = true)
    (free : s.fill.owed = none) (tail : TailAt s.store.slots s.track.segment s.track.expected)
    (low : (s.table.entry s.track.segment).first ≤ s.track.expected)
    (high : s.track.expected ≤ (s.table.entry s.track.segment).last) : Kept P s.moveOn := by
  have bound := (h.tables.entry s.track.segment).2
  have running : s.out.play ≠ .halted := fun stop => by
    rw [fill.halted.1 stop] at going; cases going
  rw [State.moveOn]
  split
  · rename_i last
    rw [State.crossByAppend]
    split
    · exact h.enterEnd (high.trans_lt bound) fill.abandon running
    · rename_i n usesCue _
      have moved := h.moveTo (tail.ends last) running n usesCue
      have kept : Kept P (s.moveTo n usesCue) := { moved.toStored with
        behind := fun _ => moved.behind
        owed := fun r hr => by rw [show (s.moveTo n usesCue).fill.owed = none from free] at hr; cases hr
        expected := (h.tables.entry n).1.trans_lt (h.tables.entry n).2
        fill := Recovery.Sound.clearAbandon fill }
      simp only
      split
      · exact kept
      · exact kept.raiseCause going (by decide)
  · rename_i inside
    exact { h with
      behind := fun _ => tail.next inside low high _
      owed := fun r hr => by rw [show s.fill.owed = none from free] at hr; cases hr
      expected := (Nat.succ_le_of_lt (Nat.lt_of_le_of_ne high inside)).trans_lt bound
      fill := fill }

/-! ### Abandon and give-up -/

/-- A give-up (R84). -/
theorem Stored.giveUp (h : Stored P s) (expected : s.track.expected < Config.addressCount)
    (abandon : s.fill.abandon ≤ 8) (running : s.out.play ≠ .halted) : Kept P s.giveUp := by
  have marked : Stored P { s with store := s.store.markTail } := { h with
    store := h.store.markTail
    faults := h.faults.markTail
    payload := fun p => (h.payload p).markTail
    order := h.order.markTail.1 }
  rw [State.giveUp]
  split
  · exact (marked.enterEnd expected abandon running).of_view (State.post_view _ _)
  · rename_i n usesCue _
    have moved := marked.moveTo h.order.markTail.2 running n usesCue
    exact (moved.of_view (State.post_view _ _)).issueNew (by decide)
end

end Sys2Proof.Machine
end

section
/-! SUPPORT. Abandons and arrivals keep the laws. -/

namespace Sys2Proof.Machine

section
variable {P : Prop} {s : State}

/-! ### The consecutive-append count cleared -/

/-- The state with the consecutive-append count at 0 (R57). -/
def State.runCleared (s : State) : State := { s with track := { s.track with run := 0 } }

theorem Stored.runCleared (h : Stored P s) : Stored P s.runCleared := { h with run := Nat.zero_le _ }

theorem Tracker.Behind.withRun {k : Tracker} {t : Tables} {l : List Slot} (h : k.Behind t l) (run : Nat) :
    { k with run := run }.Behind t l := ⟨h.low, h.high, h.tail⟩

theorem Poised.runCleared (h : Poised P s) : Poised P s.runCleared :=
  { h with toStored := h.toStored.runCleared, behind := h.behind.withRun 0 }

theorem Kept.runCleared (h : Kept P s) : Kept P s.runCleared :=
  { h with toStored := h.toStored.runCleared, behind := fun going => (h.behind going).withRun 0 }

/-! ### Placeholder runs -/

/-- A run put at E by an abandon (R10, R81). -/
theorem Poised.appendRun (h : Poised P s) {k : Nat}
    (fits : s.track.expected + k ≤ (s.table.entry s.track.segment).last + 1)
    (admits : s.store.admitsRun s.track.expected k = true) : Stored P (s.appendRun s.track.expected k) :=
  { h.toStored with
    store := h.store.pushRun admits _
    faults := h.faults.pushRun _ _ _
    payload := fun p => (h.payload p).pushRun _ _ _
    order := h.order.append (.missingRun h.behind.low fits) fun x hx y hy => by
      obtain ⟨segment, address⟩ := head?_missingRun hy
      rw [segment, address]
      exact h.behind.tail x hx }

/-- The abandon goes on after its run, whose last block stands at the tail (R56, R83, R84). -/
theorem Stored.continueAbandon (h : Stored P s) (few : s.fill.abandon ≤ 7) (running : s.out.play ≠ .halted) {last : Nat}
    (tail : TailAt s.store.slots s.track.segment last) (low : (s.table.entry s.track.segment).first ≤ last)
    (high : last ≤ (s.table.entry s.track.segment).last) : Kept P (s.continueAbandon last) := by
  have bound := (h.tables.entry s.track.segment).2
  have cleared := h.runCleared
  rw [State.continueAbandon]
  split
  · rename_i ends
    split
    · have atEnd : Stored P { s.runCleared with track := { s.runCleared.track with expected := last } } :=
        { cleared with }
      exact atEnd.enterEnd (high.trans_lt bound) (few.trans (by decide)) running
    · rename_i n usesCue _
      refine (cleared.moveTo (tail.ends ends) running n usesCue).issueNew ?_
      split <;> decide
  · rename_i inside
    have next := tail.next inside low high 0
    have moved : Stored P { s.runCleared with
        track := { s.runCleared.track with expected := last + 1 }
        fill := { s.runCleared.fill with abandon := s.runCleared.fill.abandon + 1 } } := { cleared with }
    simp only
    split
    · exact moved.giveUp (next.high.trans_lt bound) (Nat.succ_le_succ few) running
    · rename_i under
      have ready : Poised P _ := { moved with
        behind := next
        few := (Nat.le_of_not_lt under).trans h.tables.config.2.1
        running := running }
      exact ready.issueNew (by decide)

/-- The run of an abandon is not empty and does not pass the segment's end (R81). -/
theorem Poised.runLength (h : Poised P s) : 1 ≤ s.runLength
    ∧ s.track.expected + s.runLength ≤ (s.table.entry s.track.segment).last + 1 := by
  have bounds (skip e last : Nat) (pos : 1 ≤ skip) (inside : e ≤ last) :
      1 ≤ min skip (last + 1 - e) ∧ e + min skip (last + 1 - e) ≤ last + 1 := by omega
  exact bounds _ _ _ h.tables.config.1 h.behind.high

/-- A run appended at E, and the abandon gone on (R82, R83). -/
theorem Poised.runAppended (h : Poised P s) {k : Nat} (pos : 1 ≤ k)
    (fits : s.track.expected + k ≤ (s.table.entry s.track.segment).last + 1)
    (admits : s.store.admitsRun s.track.expected k = true) :
    Kept P ((s.appendRun s.track.expected k).continueAbandon (s.track.expected + k - 1)) := by
  have bounds (first e last : Nat) (low : first ≤ e) (fits : e + k ≤ last + 1) :
      first ≤ e + k - 1 ∧ e + k - 1 ≤ last := by omega
  obtain ⟨low, high⟩ := bounds _ _ _ h.behind.low fits
  exact (h.appendRun fits admits).continueAbandon h.few h.running (tailAt_missingRun _ _ _ pos) low high

/-- An abandon of a cause other than REPAIR (R81). -/
theorem Poised.abandonAhead (h : Poised P s) : Kept P s.abandonAhead := by
  obtain ⟨pos, fits⟩ := h.runLength
  rw [State.abandonAhead]
  simp only
  split
  · rename_i admits
    have left : Poised P (s.leaveRecovery s.fill.state) := { h with }
    exact left.runAppended pos fits admits
  · exact { h.runCleared with
      behind := fun _ => h.runCleared.behind
      owed := fun r hr => by cases hr; exact ⟨rfl, pos, fits⟩
      expected := h.behind.high.trans_lt (h.tables.entry _).2
      fill := Recovery.sound_resting rfl (by simp) (h.few.trans (by decide)) (fun _ => h.few)
        (iff_of_false h.running (by simp)) }

/-- A retry: the seek again, or an abandon at the limit (R79 to R81). -/
theorem Kept.retryRecovery (h : Kept P s) (going : s.fill.state.filling = true) : Kept P s.retryRecovery := by
  have cleared := h.runCleared
  have ready := cleared.poised going
  rw [State.retryRecovery]
  split
  · rename_i a active
    split
    · rename_i under
      exact ready.issue (cleared.fill.fault a active) under
    · rw [State.abandonRecovery]
      split
      · exact ready.issueNew (by decide)
      · exact ready.abandonAhead
  · exact cleared

/-! ### An append at E -/

/-- The block at E appended, with its admission (R8, R22, R95). -/
theorem Poised.appended (h : Poised P s) (takes : s.store.takes s.track.expected = true) {q : Quality}
    (real : q ≠ .missing) {payload : List Byte} (size : payload.length = 1920) : Stored P (s.appended q payload) := by
  obtain ⟨room, new⟩ := (Store.takes_iff _ _).1 takes
  let x : Slot := ⟨s.track.expected, s.track.segment, q, false, some (crc16 payload), s.admits q⟩
  have check : x.check = none ↔ x.quality = .missing := iff_of_false (by simp [x]) real
  exact {
    store := h.store.append room new check size
    faults := by
      show FaultsListed (s.store.append x payload)
        (if s.admits q = true then s.faults ++ [⟨_, x.address, x.segment, 0⟩] else s.faults)
      split
      · rename_i admitted
        obtain ⟨damaged, free⟩ : q = .damaged ∧ s.faults.length < 32 := by
          simp only [State.admits, Bool.and_eq_true, beq_iff_eq, decide_eq_true_eq] at admitted
          exact admitted.1.1
        exact h.faults.append_listed h.store payload room free damaged admitted
      · rename_i refused
        exact h.faults.append_unlisted [x] (by simpa [x] using refused) _
    payload := fun p => (h.payload p).append h.store room rfl size
    order := h.order.append (.singleton (x := x) h.behind.low h.behind.high) fun y hy z hz => by
      cases hz
      exact h.behind.tail y hy
    tables := h.tables
    run := by
      show (if s.track.run < 255 then s.track.run + 1 else 0) ≤ 255
      split <;> omega }

/-- The block at E appended, and E gone on (R8, R47). -/
theorem Kept.appended_moveOn (h : Kept P s) (going : s.fill.state.filling = true) (free : s.fill.owed = none)
    (takes : s.store.takes s.track.expected = true) {q : Quality} (real : q ≠ .missing) {payload : List Byte}
    (size : payload.length = 1920) : Kept P (s.appended q payload).moveOn := by
  have ready := h.poised going
  have fill : (s.appended q payload).FillSound := by
    show Recovery.Sound { s.fill with abandon := if s.track.run < 255 then s.fill.abandon else 0 } _ _ _ _
    split
    · exact h.fill
    · exact h.fill.clearAbandon
  exact (ready.appended takes real size).moveOn fill going free
    (tailAt_append _ (x := ⟨s.track.expected, s.track.segment, q, false, some (crc16 payload), s.admits q⟩) rfl)
    ready.behind.low ready.behind.high

/-- The high-water test (R85). -/
theorem Kept.highWaterTest (h : Kept P s) : Kept P s.highWaterTest := by
  rw [State.highWaterTest]
  split
  · rename_i full
    exact (h.poised (by rw [full.1]; rfl)).enterPausedFull
  · exact h

/-- The fill on which an append in TRACKING or PAUSED_FULL is made: PAUSED_FULL where the new C reaches high-water in
TRACKING (R20, R47, log 11). -/
def State.pausedAtHighWater (s : State) : State :=
  if s.fill.state = .tracking ∧ s.store.highWater ≤ s.store.slots.length + 1
  then (s.outOfRecovery .pausedFull).pauseAsked else s

theorem State.pausedAtHighWater_store (s : State) : s.pausedAtHighWater.store = s.store := by
  rw [State.pausedAtHighWater]; split <;> rfl

theorem State.pausedAtHighWater_track (s : State) : s.pausedAtHighWater.track = s.track := by
  rw [State.pausedAtHighWater]; split <;> rfl

/-- The high-water test as the new C is presented (R20, R85): the block at E is held, so no REFILL follows. -/
theorem State.pushBlock_highWaterTest (s : State) (a : Arrival) :
    (s.pushBlock a).highWaterTest = s.pausedAtHighWater.pushBlock a := by
  have count : (s.pushBlock a).store.count = s.store.slots.length + 1 := by
    simp [State.pushBlock, Store.push, Store.count]
  rw [State.highWaterTest, count, State.pausedAtHighWater]
  change (if s.fill.state = .tracking ∧ s.store.highWater ≤ s.store.slots.length + 1 then _ else _) = _
  split
  · exact State.pushBlock_enterPausedFull s a
  · rfl

/-- An append in TRACKING or PAUSED_FULL (R47, R51). -/
theorem State.appendAtE_takes (s : State) (a : Arrival) (takes : s.store.takes s.track.expected = true) :
    s.appendAtE a = (s.pausedAtHighWater.appended a.quality a.payload).moveOn := by
  rw [State.appendAtE, if_pos takes, State.pushBlock_highWaterTest, ← State.pausedAtHighWater_store s,
    State.pushBlock_appendSteps]

/-- An append in RELOCKING with a clean vote, which completes the relock (R76). -/
theorem State.relockAtE_clean (s : State) (a : Arrival) (takes : s.store.takes s.track.expected = true) :
    s.relockAtE a .clean
      = (((s.outOfRecovery .tracking).appended a.quality a.payload).moveOn).highWaterTest := by
  rw [State.relockAtE, if_pos takes]
  exact congrArg State.highWaterTest (State.pushBlock_appendSteps (s.outOfRecovery .tracking) a)

/-- An append in RELOCKING with a noisy vote: the recovery goes on (R75). -/
theorem State.relockAtE_noisy (s : State) (a : Arrival) (takes : s.store.takes s.track.expected = true) :
    s.relockAtE a .noisy = (s.appended a.quality a.payload).moveOn := by
  rw [State.relockAtE, if_pos takes]
  exact State.pushBlock_appendSteps s a

/-! ### Arrivals -/

/-- PAUSED_FULL at high-water, before the block is put at the tail (R85, log 11). -/
theorem Kept.pausedAtHighWater (h : Kept P s) : Kept P s.pausedAtHighWater := by
  rw [State.pausedAtHighWater]
  split
  · rename_i full
    exact ((h.poised (by rw [full.1]; rfl)).leaveRecovery (.inr rfl)).of_view rfl
  · exact h

/-- No run is owed outside ABANDON_WAIT (R63). -/
theorem Kept.owed_none (h : Kept P s) (other : s.fill.state ≠ .abandonWait) : s.fill.owed = none :=
  Option.not_isSome_iff_eq_none.1 fun some => other (h.fill.owed.1 some)

/-- An arrival at E in TRACKING or PAUSED_FULL (R47, R48, R51). -/
theorem Kept.appendAtE (h : Kept P s) (active : s.fill.state = .tracking ∨ s.fill.state = .pausedFull) {a : Arrival}
    (real : a.quality ≠ .missing) (size : a.payload.length = 1920) : Kept P (s.appendAtE a) := by
  by_cases takes : s.store.takes s.track.expected = true
  · rw [State.appendAtE_takes s a takes]
    have state : s.pausedAtHighWater.fill.state = .tracking ∨ s.pausedAtHighWater.fill.state = .pausedFull := by
      rw [State.pausedAtHighWater]
      split
      · exact .inr rfl
      · exact active
    have paused := h.pausedAtHighWater
    refine paused.appended_moveOn ?_ (paused.owed_none ?_) ?_ real size
    · rcases state with e | e <;> rw [e] <;> rfl
    · rcases state with e | e <;> rw [e] <;> decide
    · rw [State.pausedAtHighWater_store, State.pausedAtHighWater_track, takes]
  · rw [State.appendAtE, if_neg takes]
    split
    · rename_i tracking
      exact (h.poised (by rw [tracking]; rfl)).enterPausedFull
    · exact h

/-- An arrival at E in RELOCKING (R75 to R78). -/
theorem Kept.relockAtE (h : Kept P s) (relocking : s.fill.state = .relocking) {a : Arrival}
    (real : a.quality ≠ .missing) (size : a.payload.length = 1920) (v : Vote) : Kept P (s.relockAtE a v) := by
  have going : s.fill.state.filling = true := by rw [relocking]; rfl
  by_cases takes : s.store.takes s.track.expected = true
  · cases v with
    | clean =>
      rw [State.relockAtE_clean s a takes]
      have tracking := (h.poised going).leaveRecovery (.inl rfl : FillState.tracking = .tracking ∨ _)
      exact (tracking.appended_moveOn rfl rfl takes real size).highWaterTest
    | noisy =>
      rw [State.relockAtE_noisy s a takes]
      exact h.appended_moveOn going (h.owed_none (by rw [relocking]; decide)) takes real size
  · rw [State.relockAtE.eq_def, if_neg takes]
    exact (h.poised going).enterPausedFull

/-- A repair leaves the fill where it is (R14, R102, R103). -/
theorem Kept.replaceAt (h : Kept P s) {i : Nat} {slot : Slot} (held : s.store.slots[i]? = some slot) {a : Arrival}
    (real : a.quality ≠ .missing) (size : a.payload.length = 1920) : Kept P (s.replaceAt i slot a) := by
  let y : Slot := { slot with quality := a.quality, check := some (crc16 a.payload), listed := false }
  have faults : (if slot.listed then removeFault s.faults (s.store.physical i) else s.faults)
      = removeFault s.faults (s.store.physical i) := by
    split
    · rfl
    · rename_i plain
      exact (h.faults.removeFault_unlisted h.store held (by simpa using plain)).symm
  have places : (s.store.slots.set i y).map Slot.place = s.store.slots.map Slot.place := map_place_set held rfl
  have check : y.check = none ↔ y.quality = .missing := iff_of_false (by simp [y]) real
  have repaired : Kept P { s with
      store := s.store.repair i y a.payload
      faults := removeFault s.faults (s.store.physical i) } := { h with
    store := h.store.repair held rfl check size
    faults := h.faults.repair h.store a.payload held rfl
    payload := fun p => (h.payload p).repair h.store held rfl size
    order := h.order.of_places places
    behind := fun going => (h.behind going).of_places places }
  rw [State.replaceAt, faults]
  exact repaired.of_view (State.post_view _ _)

/-- An overlap arrival (R14, R49). -/
theorem Kept.overlap (h : Kept P s) (addr : Addr) {a : Arrival} (real : a.quality ≠ .missing)
    (size : a.payload.length = 1920) : Kept P (s.overlap addr a) := by
  rw [State.overlap]
  split
  · exact h
  · split
    · exact h
    · rename_i held
      split
      · exact h.replaceAt held real size
      · exact h

/-- An arrival in RELOCKING (R75). -/
theorem Kept.relockArrival (h : Kept P s) (relocking : s.fill.state = .relocking) {a : Arrival}
    (real : a.quality ≠ .missing) (size : a.payload.length = 1920) : Kept P (s.relockArrival a) := by
  have going : s.fill.state.filling = true := by rw [relocking]; rfl
  rw [State.relockArrival]
  split
  · exact h.retryRecovery going
  · split
    · exact h.relockAtE relocking real size _
    · split
      · exact h.overlap _ real size
      · exact h.retryRecovery going

/-- An arrival in TRACKING or PAUSED_FULL (R46, R51). -/
theorem Kept.trackArrival (h : Kept P s) (active : s.fill.state = .tracking ∨ s.fill.state = .pausedFull) {a : Arrival}
    (real : a.quality ≠ .missing) (size : a.payload.length = 1920) : Kept P (s.trackArrival a) := by
  rw [State.trackArrival]
  split
  · exact h
  · split
    · exact h.appendAtE active real size
    · split
      · exact h.overlap _ real size
      · split
        · rename_i addr v _ _ _ tracking
          have skipped := (h.of_view
            (State.post_view s (.skipDetected addr s.track.expected s.track.segment v))).runCleared
          refine skipped.raiseCause ?_ (by decide)
          show (s.post _).fill.state.filling = true
          rw [State.post_fill, tracking]; rfl
        · exact h

/-- An arrival in ABANDON_WAIT or END (R52). -/
theorem Kept.restArrival (h : Kept P s) {a : Arrival} (real : a.quality ≠ .missing) (size : a.payload.length = 1920) :
    Kept P (s.restArrival a) := by
  rw [State.restArrival]
  split
  · exact h
  · split
    · exact h.overlap _ real size
    · exact h

/-- An arrival by fill state, and the REPAIR evaluation after it (R45, R69). -/
theorem Kept.arrive (h : Kept P s) {a : Arrival} (real : a.quality ≠ .missing) (size : a.payload.length = 1920) :
    Kept P (s.arrive a) := by
  apply Kept.evaluateRepair
  split
  · exact h
  · exact h
  · exact h
  · rename_i relocking
    exact h.relockArrival relocking real size
  · rename_i tracking
    exact h.trackArrival (.inl tracking) real size
  · rename_i paused
    exact h.trackArrival (.inr paused) real size
  · exact h.restArrival real size
  · exact h.restArrival real size

/-- A SEEK_DONE (R39, R71, R72). -/
theorem Kept.seekAnswer (h : Kept P s) (tag : Tag) (status : SeekStatus) : Kept P (s.seekAnswer tag status) := by
  rw [State.seekAnswer]
  split
  · rename_i matched
    obtain ⟨-, seeking, -⟩ := matched
    have going : s.fill.state.filling = true := by rw [seeking]; rfl
    have recovering : s.fill.state.recovering = true := by rw [seeking]; rfl
    have live : s.fill.state ≠ .halted := by rw [seeking]; decide
    cases status with
    | locked => exact { h with
        behind := fun _ => h.behind going
        fill := {
          watching := h.fill.watching.trans recovering
          counter := Nat.zero_le _
          disarmed := fun _ => rfl
          outstanding := rfl
          active := fun _ => (h.fill.active live).trans recovering
          fault := h.fill.fault
          idle := fun _ rest => by cases rest
          retry := h.fill.retry
          owed := h.fill.owed.trans (iff_of_false (by rw [seeking]; decide) nofun)
          abandon := h.fill.abandon
          filling := fun _ => h.fill.filling going
          halted := h.fill.halted.trans (iff_of_false live nofun) } }
    | failed => exact h.retryRecovery going
  · exact h.of_view (State.post_view _ _)

end

end Sys2Proof.Machine
end

section
/-! SUPPORT. The output and the flushes keep the laws. -/

namespace Sys2Proof.Machine

section
variable {P : Prop} {s : State}

/-! ### What leaves the view -/

/-- A play state entered from another, neither of them HALTED (R111, R135). -/
theorem State.enter_view {p : PlayState} (running : s.out.play ≠ .halted) (other : p ≠ .halted) :
    (s.enter p).view = s.view := by
  have flags : (p == PlayState.halted) = (s.out.play == PlayState.halted) := by
    rw [beq_eq_false_iff_ne.2 other, beq_eq_false_iff_ne.2 running]
  exact congrArg (fun halted => { s.view with halted := halted }) flags


@[simp] theorem State.refreshStep_view (s : State) : s.refreshStep.view = s.view := by
  rw [State.refreshStep]; split <;> rfl

@[simp] theorem State.takeAfterCut_view (s : State) : s.takeAfterCut.view = s.view := by
  rw [State.takeAfterCut]; split <;> rfl

@[simp] theorem State.beginPlan_view (s : State) (step : Option Nat) : (s.beginPlan step).view = s.view := by
  cases step <;> rfl

@[simp] theorem State.lateCut_view (s : State) (p : Plan) : (s.lateCut p).view = s.view := by
  rw [State.lateCut]; split <;> rfl

@[simp] theorem State.enterSegment_view (s : State) (slot : Slot) (offset : Nat) :
    (s.enterSegment slot offset).view = s.view := by
  have entered : ({ s with out := { s.out with cursorSegment := some slot.segment } } : State).view = s.view := rfl
  rw [State.enterSegment]
  split
  · rfl
  · simp only
    split <;> simp [entered]

@[simp] theorem State.adopt_view (s : State) (plan : Plan) (slot : Slot) (first : FirstSlot) (fallback : Bool) :
    (s.adopt plan slot first fallback).view = s.view := State.post_view _ _

@[simp] theorem State.requestCut_view (s : State) (off : Nat) : (s.requestCut off).view = s.view := by
  rw [State.requestCut]
  split
  · rfl
  · split
    · simp only; split <;> rfl
    · rfl

@[simp] theorem State.handOn_view (s : State) : s.handOn.2.view = s.view := by
  rw [State.handOn]
  split
  · split
    · rename_i off _
      have cut := State.requestCut_view s off
      simp only
      split
      · exact cut
      · split <;> exact cut
    · rfl
  · split <;> rfl

/-! ### The head leaves the store -/

/-- A consume (R12, R102, R105). -/
theorem Kept.consume (h : Kept P s) : Kept P s.consume := by
  rcases held : s.store.slots with _ | ⟨slot, rest⟩
  · rw [State.consume, held]; exact h
  · have first : s.store.slots[0]? = some slot := by rw [held]; rfl
    have zero : s.store.physical 0 = s.store.head := Store.physical_zero h.store.head
    have faults : (if slot.listed then removeFault s.faults s.store.head else s.faults)
        = removeFault s.faults s.store.head := by
      split
      · rfl
      · rename_i plain
        rw [← zero]
        exact (h.faults.removeFault_unlisted h.store first (by simpa using plain)).symm
    simp only [State.consume, held, faults]
    exact { h with
      store := h.store.dropHead
      faults := h.faults.dropHead h.store
      payload := fun p => (h.payload p).dropHead
      order := h.order.tail
      behind := fun going => let b := h.behind going; { b with tail := fun x hx => b.tail x (getLast?_tail hx) } }

/-! ### HALTED, and the end of a block -/

/-- HALTED entered (R89, R128). -/
theorem Kept.halt (h : Kept P s) (pos : Position) (kind : PlanKind) : Kept P (s.halt pos kind) := by
  refine Kept.of_view ?_ (State.post_view _ _)
  exact { h with
    behind := fun going => by cases going
    owed := fun _ hr => by cases hr
    fill := {
      watching := rfl
      counter := Nat.zero_le _
      disarmed := fun _ => rfl
      outstanding := rfl
      active := fun live => absurd rfl live
      fault := h.fill.fault
      idle := fun live => absurd rfl live
      retry := h.fill.retry
      owed := iff_of_false nofun nofun
      abandon := h.fill.abandon
      filling := fun going => by cases going
      halted := iff_of_true rfl rfl } }

/-- The end of the program (R121): the fill goes from END to STOPPED. -/
theorem Kept.endProgram (h : Kept P s) (ended : s.fill.state = .ended) : Kept P s.endProgram := by
  have live : s.fill.state ≠ .halted := by rw [ended]; decide
  have rest : s.fill.state.recovering = false := by rw [ended]; rfl
  refine Kept.of_view ?_ (State.post_view _ _)
  exact { h with
    behind := fun going => by cases going
    fill := { h.fill with
      watching := h.fill.watching.trans rest
      outstanding := by rw [show s.cutOff.fill = s.fill from rfl, h.fill.outstanding, ended]; rfl
      active := fun _ => (h.fill.active live).trans rest
      idle := fun _ _ => h.fill.idle live rest
      owed := h.fill.owed.trans (iff_of_false (by rw [ended]; decide) nofun)
      filling := fun going => by cases going
      halted := iff_of_false nofun nofun } }

/-- Starvation (R119). -/
theorem Kept.starve (h : Kept P s) (running : s.out.play ≠ .halted) : Kept P s.starve := by
  refine Kept.of_view (h.of_view ?_) (State.post_view _ _)
  exact State.enter_view (s := { s with out := { s.out with cursor := .waiting, plan := none } }) running (by decide)

/-- The block boundary test (R118 to R121). -/
theorem Kept.boundaryTest (h : Kept P s) : Kept P s.boundaryTest := by
  rw [State.boundaryTest]
  split
  · exact h.of_view rfl
  · split
    · rename_i playing
      split
      · rename_i ended
        exact h.endProgram ended
      · exact h.starve (by rw [playing]; decide)
    · exact h.of_view rfl

/-- The plan-end step (R148, R151). -/
theorem Kept.planEnd (h : Kept P s) (kind : PlanKind) : Kept P (s.planEnd kind) := by
  rw [State.planEnd]
  split
  · exact h.boundaryTest
  · rename_i slot _ _
    split
    · split
      · exact h.of_view (State.enterSegment_view { s with out := { s.out with plan := none } } slot 0)
      · exact (h.of_view rfl : Kept P { s with out := { s.out with cursor := .next } }).halt _ _
    · exact h.boundaryTest

/-- The consume of the finished head and what follows it (R118, R144 to R146). -/
theorem Kept.boundary (h : Kept P s) : Kept P s.boundary := by
  rw [State.boundary]
  split
  · exact h.consume.boundaryTest
  · rename_i p _
    have consumed : Kept P (s.lateCut p).consume := (h.of_view (State.lateCut_view s p)).consume
    have spent : Kept P { (s.lateCut p).consume with
        out := { (s.lateCut p).consume.out with plan := some { p with left := 0 } } } := consumed.of_view rfl
    simp only
    split
    · exact consumed.of_view rfl
    · split
      · exact spent.boundaryTest
      all_goals exact spent.planEnd _

/-- A DROP's run leaves the store (R126, R147). -/
theorem Kept.dropRun (n : Nat) (h : Kept P s) : Kept P (State.dropRun n s) := by
  induction n generalizing s with
  | zero => exact h
  | succ n ih =>
    rw [State.dropRun]
    split
    · exact h
    · exact ih (h.of_view (State.enterSegment_view s _ _)).consume

/-- The change of a DROP to DROPPED (R147, R148). -/
theorem Kept.dropPlan (h : Kept P s) : Kept P s.dropPlan := by
  rw [State.dropPlan]
  split
  · exact h
  · rename_i p _
    exact ((h.dropRun p.left).of_view rfl : Kept P { State.dropRun p.left s with
      out := { (State.dropRun p.left s).out with plan := some { p with phase := .dropped, left := 0 } } }).planEnd .drop

/-! ### A slot becomes the head, and the sample period -/

/-- Run planning (R139 to R142). -/
theorem Kept.planRun (h : Kept P s) (slot : Slot) (offset : Nat) (first : FirstSlot) :
    Kept P (s.planRun slot offset first) := by
  rw [State.planRun]
  split
  · split
    · exact h.of_view (State.adopt_view _ _ _ _ _)
    · exact (h.of_view rfl : Kept P { s with out := { s.out with cursor := .head offset } }).halt _ _
  · exact h.of_view ((State.beginPlan_view _ _).trans (State.adopt_view _ _ _ _ _))

/-- The slot at the head becomes the head for output (R117). -/
theorem Kept.becomeHead (h : Kept P s) : Kept P s.becomeHead := by
  rw [State.becomeHead]
  split
  · exact h
  · rename_i slot _ _
    have entered : Kept P (s.enterSegment slot s.out.startOffset) := h.of_view (State.enterSegment_view _ _ _)
    have cut := entered.of_view (State.takeAfterCut_view _)
    simp only
    split
    · exact entered.of_view rfl
    · split
      · split
        · exact cut.of_view rfl
        · exact cut.planRun _ _ _
      · split
        · exact cut.of_view rfl
        · exact cut.planRun _ _ _
      · exact cut.planRun _ _ _
      · exact cut.planRun _ _ _

/-- What one sample period does once nothing else is due (R113, R117, R118). -/
theorem Kept.period (h : Kept P s) : Kept P s.period := by
  have headed : Kept P (if s.headDue then s.becomeHead else s) := by
    split
    · exact h.becomeHead
    · exact h
  rw [State.period]
  generalize (if s.headDue then s.becomeHead else s) = t at headed
  have sent : Kept P (t.handOn.2.sound t.handOn.1) := headed.of_view (State.handOn_view t)
  generalize t.handOn.2.sound t.handOn.1 = u at sent
  simp only
  split
  · exact sent.boundary.of_view rfl
  · exact sent.of_view rfl

/-! ### The store flushed -/

/-- A flush (R16). -/
theorem Stored.flush (h : Stored P s) : Stored P s.flush where
  store := h.store.flush _
  faults := .of_empty rfl
  payload := fun _ => .of_empty rfl
  order := .nil _
  tables := h.tables
  run := Nat.zero_le _

/-- The fill stopped, its abandon count at 0 (R68, R88). -/
theorem Stored.stopped (h : Stored P s) (expected : s.track.expected < Config.addressCount)
    (running : s.out.play ≠ .halted) {t : State}
    (same : t.view = ({ s with fill := { s.fill with abandon := 0 } }.leaveRecovery .stopped).view) : Kept P t := by
  have cleared : Stored P { s with fill := { s.fill with abandon := 0 } } := { h with }
  exact (cleared.leaveRecovery expected (Nat.zero_le _) running (.inl rfl)).of_view same

/-- The save step (R168). -/
theorem Kept.save (h : Kept P s) (running : s.out.play ≠ .halted) : Kept P s.save :=
  h.toStored.flush.stopped h.expected running rfl

/-- The STOP completion (R124). -/
theorem Kept.completeStop (h : Kept P s) (running : s.out.play ≠ .halted) : Kept P s.completeStop :=
  (h.of_view (State.enter_view running (by decide : PlayState.idle ≠ _))).toStored.flush.stopped h.expected nofun rfl

/-- A fill started afresh at a position of a segment (R68, R115, R176). -/
theorem Kept.startAt (h : Kept P s) {pos : Position} (low : (s.table.entry pos.segment).first ≤ pos.address)
    (high : pos.address ≤ (s.table.entry pos.segment).last) {reason : Reason} (plain : reason ≠ .repair) :
    Kept P (s.startAt pos reason) := by
  rw [State.startAt]
  refine Poised.issueNew ?_ plain
  exact { h.toStored.flush with
    behind := ⟨low, high, fun _ hx => by cases hx⟩
    few := Nat.zero_le _
    running := nofun }

end

end Sys2Proof.Machine
end

section
/-! SUPPORT. The part's own events and the tray line keep the laws. -/

namespace Sys2Proof.Machine

section
variable {P : Prop} {s : State}

/-! ### Events -/

theorem Kept.post (h : Kept P s) (r : Report) : Kept P (s.post r) := h.of_view (State.post_view s r)

theorem Kept.answer (h : Kept P s) (source : FrameSource) (code : Byte) (outcome : ResultCode)
    (present : Bool := false) : Kept P (s.answer source code outcome present) := h.post _

theorem Kept.enter (h : Kept P s) {p : PlayState} (running : s.out.play ≠ .halted) (other : p ≠ .halted) :
    Kept P (s.enter p) := h.of_view (State.enter_view running other)

/-- The timer moved on, armed as before, its counter within its range (R153 to R156). -/
theorem Kept.withTimer (h : Kept P s) {u : Timer} (armed : u.armed = s.timer.armed) (counter : u.watchdog ≤ 3)
    (disarmed : s.timer.armed = false → u.watchdog = 0) : Kept P { s with timer := u } :=
  { h with fill := { h.fill with
      watching := armed.trans h.fill.watching
      counter := counter
      disarmed := fun off => disarmed (armed ▸ off) } }

/-- The end of a block period (R136, R153): a rise counts an armed watchdog up to 3. -/
theorem Kept.takePeriodEnd (h : Kept P s) : Kept P s.takePeriodEnd := by
  rw [State.takePeriodEnd]
  split
  · have counted : Kept P { s with timer := s.timer.rise s.table.config (s.tray.state == .settling) } := by
      refine h.withTimer rfl ?_ fun off => ?_
      · have := h.fill.counter
        simp only [Timer.rise]
        split <;> omega
      · simp only [Timer.rise, off, Bool.false_and, Bool.false_eq_true, false_and, if_false]
        exact h.fill.disarmed off
    exact counted.of_view rfl
  · exact h

/-- The carry that found the watchdog at 3 (R156): an armed watchdog means a recovery, which retries. -/
theorem Kept.takeExpiry (h : Kept P s) : Kept P s.takeExpiry := by
  rw [State.takeExpiry]
  split
  · simp only
    split
    · exact h.of_view rfl
    · rename_i armed
      split
      · rename_i low
        exact h.withTimer (u := { s.timer with expiryDue := false, watchdog := s.timer.watchdog + 1 }) rfl low
          fun off => absurd off armed
      · have cleared : Kept P { s with timer := { s.timer with expiryDue := false, watchdog := 0 } } :=
          h.withTimer rfl (Nat.zero_le _) fun _ => rfl
        have recovering : s.fill.state.recovering = true := h.fill.watching ▸ Bool.eq_true_of_not_eq_false armed
        refine cleared.retryRecovery (?_ : s.fill.state.filling = true)
        revert recovering
        cases s.fill.state <;> simp [FillState.recovering, FillState.filling]
  · exact h

theorem Kept.takeSettleEnd (h : Kept P s) : Kept P s.takeSettleEnd := by
  rw [State.takeSettleEnd]
  split
  · simp only
    split <;> exact h.of_view rfl
  · exact h

theorem Kept.takePeriodicPosition (h : Kept P s) : Kept P s.takePeriodicPosition := by
  have taken : Kept P { s with timer := { s.timer with positionDue := false } } := h.of_view rfl
  rw [State.takePeriodicPosition]
  split
  · simp only
    split
    · exact taken.post _
    · exact taken
  · exact h

theorem Kept.takeDropped (h : Kept P s) : Kept P s.takeDropped := by
  rw [State.takeDropped]
  split
  · exact h.dropPlan
  · exact h

theorem Kept.takePausedEntry (h : Kept P s) : Kept P s.takePausedEntry := by
  rw [State.takePausedEntry]
  split
  · rename_i due
    exact h.enter (by rw [due.1]; decide) (by decide)
  · exact h

theorem Kept.takeStopCompletion (h : Kept P s) : Kept P s.takeStopCompletion := by
  rw [State.takeStopCompletion]
  split
  · rename_i due
    exact h.completeStop (by rw [due.1]; decide)
  · exact h

theorem Kept.takeSaveStep (h : Kept P s) : Kept P s.takeSaveStep := by
  rw [State.takeSaveStep]
  split
  · rename_i due
    simp only [State.beforeSave, Bool.and_eq_true, beq_iff_eq] at due
    exact h.save (by rw [due.1.1]; decide)
  · exact h

/-- The owed run asked for again (R82): it is the run that begins at E. -/
theorem Kept.takePlaceholderRun (h : Kept P s) : Kept P s.takePlaceholderRun := by
  rw [State.takePlaceholderRun]
  split
  · exact h
  · rename_i run owes
    split
    · rename_i due
      obtain ⟨wait, admits⟩ := due
      obtain ⟨first, pos, fits⟩ := h.owed run owes
      rw [first] at admits fits ⊢
      have left : Poised P (s.leaveRecovery .abandonWait) := { h.poised (by rw [wait]; rfl) with }
      exact left.runAppended pos fits admits
    · exact h

theorem Kept.beginPlaying (h : Kept P s) (running : s.out.play ≠ .halted) : Kept P s.beginPlaying :=
  (h.enter running (by decide : PlayState.playing ≠ _)).of_view rfl

theorem Kept.takeStartTest (h : Kept P s) : Kept P s.takeStartTest := by
  rw [State.takeStartTest]
  split
  · rename_i due
    exact h.beginPlaying (by rw [due.1]; decide)
  · exact h

theorem Kept.takeStarvedRecovery (h : Kept P s) : Kept P s.takeStarvedRecovery := by
  rw [State.takeStarvedRecovery]
  split
  · rename_i due
    exact h.beginPlaying (by rw [due.1]; decide)
  · exact h

/-- Whatever is due, taken (log 2). -/
theorem Kept.takeDue (h : Kept P s) : Kept P s.takeDue :=
  h.takePeriodEnd.takeExpiry.takeSettleEnd.takePeriodicPosition
    |>.takeDropped.takePausedEntry.takeStopCompletion.takeSaveStep
    |>.refillIfDue.takePlaceholderRun.takeStartTest.takeStarvedRecovery

/-- The DRAM's loss: no payload is kept where a byte may have gone (log 10). -/
theorem Kept.upset (h : Kept P s) {changes : List (Nat × Byte)} (keeps : P → changes = []) :
    Kept P (s.upset changes) :=
  { h with
    store := h.store.withDram (Memory.upset_wf h.store.dram changes)
    faults := h.faults.of_ring rfl rfl rfl
    payload := fun p => by rw [keeps p]; exact h.payload p }

/-! ### The tray line -/

/-- An open edge in CLOSED (R166). -/
theorem Kept.openFromClosed (h : Kept P s) : Kept P s.openFromClosed := by
  have faded (running : s.out.play ≠ .halted) :
      Kept P ({ s with tray := { s.tray with state := .fading } }.enter .trayHold) :=
    (h.of_view rfl : Kept P { s with tray := { s.tray with state := .fading } }).enter running (by decide)
  have fades (running : s.out.play ≠ .halted) : Kept P
      (if ({ s with tray := { s.tray with state := .fading } }.enter .trayHold).gain.fade = 0
        then ({ s with tray := { s.tray with state := .fading } }.enter .trayHold).save
        else { s with tray := { s.tray with state := .fading } }.enter .trayHold) := by
    split
    · exact (faded running).save nofun
    · exact faded running
  rw [State.openFromClosed]
  split
  iterate 5 (next play => exact fades (by rw [play]; decide))
  iterate 3 (next => exact h.of_view rfl)
  · exact h

theorem Kept.takeOpenEdge (h : Kept P s) : Kept P s.takeOpenEdge := by
  rw [State.takeOpenEdge]
  split
  · exact h
  · have edge : Kept P { s with tray := s.tray.takeEdge .low } := h.of_view rfl
    refine Kept.post ?_ _
    split
    · exact edge.openFromClosed
    · exact edge.of_view rfl
    · exact edge.of_view rfl
    · exact edge
    · exact edge

/-- A clearing of the timebase (R154). -/
theorem Kept.clearTimer (h : Kept P s) : Kept P { s with timer := s.timer.clear } :=
  h.withTimer rfl (Nat.zero_le _) fun _ => rfl

theorem Kept.takeCloseEdge (h : Kept P s) : Kept P s.takeCloseEdge := by
  rw [State.takeCloseEdge]
  split
  · exact h
  · have edge : Kept P { s with tray := s.tray.takeEdge .high, timer := s.timer.clear } :=
      h.clearTimer.of_view rfl
    refine Kept.post ?_ _
    split <;> exact edge.of_view rfl
end

end Sys2Proof.Machine
end

section
/-! SUPPORT. The commands and the table loads keep the laws. -/

namespace Sys2Proof.Machine

section
variable {P : Prop} {s : State}

/-! ### Commands -/

/-- A COMMAND is refused with a RESULT, or handled (R179, R180). -/
theorem Kept.commanded (h : Kept P s) (code : Byte) (form : Bool) {t : State}
    (handled : s.out.play ≠ .halted → Kept P t) : Kept P (s.commanded code form t) := by
  rw [State.commanded]
  split
  · exact h.answer _ _ _
  · rename_i running
    split
    · exact handled running
    · exact h.answer _ _ _

/-- A TABLE load is refused with a RESULT, or handled (R179, R183). -/
theorem Kept.loaded (h : Kept P s) (format : Byte) (length : Bool) {t : State}
    (handled : s.out.play ≠ .halted → Kept P t) : Kept P (s.loaded format length t) := by
  rw [State.loaded]
  split
  · exact h.answer _ _ _
  · rename_i running
    split
    · exact handled running
    · exact h.answer _ _ _

/-- PLAY (R115): the address is clamped into the segment. -/
theorem Kept.playAt (h : Kept P s) (segByte : Byte) (address : Option Addr) : Kept P (s.playAt segByte address) := by
  rw [State.playAt]
  split
  · exact h.answer _ _ _
  · rename_i seg _
    simp only
    split
    · exact h.answer _ _ _
    · split
      · exact h.answer _ _ _
      · have whole := (h.tables.entry seg).1
        refine Kept.answer (h.startAt (le_max_left _ _) ?_ (by decide)) _ _ _
        exact max_le whole (min_le_left _ _)

theorem Kept.pauseNow (h : Kept P s) (running : s.out.play ≠ .halted) : Kept P s.pauseNow := by
  rw [State.pauseNow]
  split
  · exact (h.enter running (by decide)).answer _ _ _
  · exact (h.enter running (by decide)).answer _ _ _
  all_goals exact h.answer _ _ _

@[simp] theorem State.turnPlan_view (s : State) : s.turnPlan.view = s.view := by
  rw [State.turnPlan]
  split
  · rfl
  · split
    · split <;> rfl
    · split <;> rfl
    · rfl

/-- Play going on (R123). -/
theorem Kept.resumePlay (h : Kept P s) (running : s.out.play ≠ .halted) : Kept P s.resumePlay := by
  have entered : Kept P (s.enter .playing) := h.enter running (by decide)
  have turned : Kept P (if s.out.play = .pausing then (s.enter .playing).turnPlan else s.enter .playing) := by
    split
    · exact entered.of_view (State.turnPlan_view _)
    · exact entered
  rw [State.resumePlay]
  generalize (if s.out.play = .pausing then (s.enter .playing).turnPlan else s.enter .playing) = t at turned
  split
  · exact turned.boundaryTest
  · exact turned

theorem Kept.takeHeldConsume (h : Kept P s) : Kept P s.takeHeldConsume := by
  rw [State.takeHeldConsume]
  split
  · exact h.boundary
  · exact h

/-- RESUME (R122, R123). -/
theorem Kept.resumeNow (h : Kept P s) (running : s.out.play ≠ .halted) : Kept P s.resumeNow := by
  rw [State.resumeNow]
  split
  · exact ((h.resumePlay running).answer _ _ _).takeHeldConsume
  · exact ((h.resumePlay running).answer _ _ _).takeHeldConsume
  all_goals exact h.answer _ _ _

/-- STOP (R124). -/
theorem Kept.stopNow (h : Kept P s) (running : s.out.play ≠ .halted) : Kept P s.stopNow := by
  have stopping : Kept P (s.enter .stopping) := h.enter running (by decide)
  rw [State.stopNow]
  split
  · exact stopping.answer _ _ _
  · exact stopping.answer _ _ _
  · exact stopping.answer _ _ _
  · exact (stopping.completeStop nofun).answer _ _ _
  · exact (h.completeStop running).answer _ _ _
  all_goals exact h.answer _ _ _

theorem Kept.setStop (h : Kept P s) (index : Byte) : Kept P (s.setStop index) := by
  rw [State.setStop]
  split
  · exact (h.of_view rfl : Kept P { s with table := { s.table with stopIndex := none } }).answer _ _ _
  · split
    · rename_i seg _
      exact (h.of_view rfl : Kept P { s with table := { s.table with stopIndex := some seg } }).answer _ _ _
    · exact h.answer _ _ _

theorem Kept.setRepeat (h : Kept P s) (value : Byte) : Kept P (s.setRepeat value) := by
  have flagged (b : Bool) : Kept P { s with table := { s.table with repeatFlag := b } } := h.of_view rfl
  rw [State.setRepeat]
  split
  · exact (flagged false).answer _ _ _
  · split
    · exact (flagged true).answer _ _ _
    · exact h.answer _ _ _

theorem Kept.cueNow (h : Kept P s) : Kept P s.cueNow := by
  rw [State.cueNow]
  split
  · exact h.answer _ _ _
  · exact (h.of_view rfl : Kept P { s with table := { s.table with cueFlag := true } }).answer _ _ _

/-- A resume from a record whose position lies in its segment (R176). -/
theorem Kept.resumeFrom (h : Kept P s) {r : ResumeRecord}
    (low : (s.table.entry r.position.segment).first ≤ r.position.address)
    (high : r.position.address ≤ (s.table.entry r.position.segment).last) : Kept P (s.resumeFrom r) := by
  have recalled : Kept P { s with
      gain := { s.gain with requested := r.level, applied := r.level }
      table := { s.table with repeatFlag := r.repeatFlag } } := h.of_view rfl
  have started := recalled.startAt low high (by decide : Reason.resume ≠ _)
  exact (started.enter nofun (by decide : PlayState.priming ≠ _)).of_view rfl

/-- A record is resumed only at a position in its segment (R175). -/
theorem State.resumeOutcome_resumed {f : Fingerprint} {r : ResumeRecord} (found : findRecord s.tray.records f = some r)
    (resumed : s.resumeOutcome f = .resumed) : (s.table.entry r.position.segment).first ≤ r.position.address
      ∧ r.position.address ≤ (s.table.entry r.position.segment).last := by
  simp only [State.resumeOutcome, found] at resumed
  split at resumed
  · cases resumed
  · split at resumed
    · cases resumed
    · rename_i inside
      simp only [not_or, Nat.not_lt] at inside
      exact inside.2

/-- An IDENTIFY that decides a resume (R175 to R177). -/
theorem Kept.decideResume (h : Kept P s) (running : s.out.play ≠ .halted) (f : Fingerprint) :
    Kept P (s.decideResume f) := by
  have identified : Kept P { s with tray := { s.tray with fingerprint := some f, state := .closed } } := h.of_view rfl
  refine Kept.post ?_ _
  split
  · rename_i r resumed found
    obtain ⟨low, high⟩ := State.resumeOutcome_resumed found resumed
    exact identified.resumeFrom low high
  · exact (identified.enter running (by decide : PlayState.idle ≠ _)).of_view rfl

theorem Kept.identifyDisc (h : Kept P s) (running : s.out.play ≠ .halted) (f : Fingerprint) :
    Kept P (s.identifyDisc f) := by
  rw [State.identifyDisc]
  simp only
  split
  · exact h.answer _ _ _
  · split
    · exact (h.decideResume running f).answer _ _ _ _
    · split
      · exact (h.of_view rfl : Kept P { s with
          tray := { s.tray with fingerprint := some f, state := .closed } }).answer _ _ _ _
      · exact h.answer _ _ _

theorem Kept.ackTray (h : Kept P s) : Kept P s.ackTray := by
  have flagged (b : Bool) : Kept P { s with tray := { s.tray with pendingFlag := b } } := h.of_view rfl
  rw [State.ackTray]
  split
  · exact ((flagged true).post _).answer _ _ _
  · exact (flagged false).answer _ _ _

theorem Kept.queryStatus (h : Kept P s) : Kept P s.queryStatus :=
  (h.of_view rfl : Kept P { s with link := { s.link with noisy := 0 } }).post _

theorem Kept.query (h : Kept P s) (params : List Byte) : Kept P (s.query params) := by
  rw [State.query.eq_def]
  split
  · split
    · exact h.queryStatus
    · split <;> exact h.answer _ _ _
  · split
    · exact h.answer _ _ _
    · split
      · split
        · exact h.post _
        · exact h.answer _ _ _
      · exact h.answer _ _ _
  · exact h.answer _ _ _

/-- A soft reset (R25, R43, R61, R92, R189). -/
theorem Kept.resetSoft (h : Kept P s) : Kept P s.resetSoft :=
  { h.toStored.flush with
    order := .nil _
    behind := fun going => by cases going
    owed := fun _ hr => by cases hr
    expected := (by decide : 0 < Config.addressCount)
    fill := Recovery.sound_resting rfl (iff_of_false nofun nofun) (Nat.zero_le _) (fun going => by cases going)
      (iff_of_false nofun nofun) }

/-! ### Table loads -/

theorem Tables.setEntry_entry (t : Tables) (i seg : SegmentIndex) (e : PlayEntry) :
    (t.setEntry i e).entry seg = if i = seg then e else t.entry seg := by
  simp only [Tables.entry, Tables.setEntry, Fin.getElem_fin, Vector.getElem_set, Fin.ext_iff]

/-- A SEGMENT load of a segment that is not in use (R184): no held slot and no fill reads its entry. -/
theorem Kept.setEntry (h : Kept P s) {i : SegmentIndex} {e : PlayEntry} (free : s.inUse i = false)
    (whole : e.first ≤ e.last) (bound : e.last < Config.addressCount) :
    Kept P { s with table := s.table.setEntry i e } := by
  rw [State.inUse, Bool.or_eq_false_iff] at free
  obtain ⟨unheld, unfilled⟩ := free
  have held : ∀ x ∈ s.store.slots, (s.table.setEntry i e).entry x.segment = s.table.entry x.segment := by
    intro x hx
    have other : i ≠ x.segment := fun same => by
      have := List.any_eq_false.1 unheld x hx
      simp [same] at this
    rw [Tables.setEntry_entry, if_neg other]
  have fill (live : s.fill.state ≠ .stopped) :
      (s.table.setEntry i e).entry s.track.segment = s.table.entry s.track.segment := by
    have other : i ≠ s.track.segment := fun same => by simp [same, live] at unfilled
    rw [Tables.setEntry_entry, if_neg other]
  exact { h with
    order := h.order.of_entries held
    tables := by
      refine ⟨fun x hx => ?_, h.tables.2⟩
      rcases Vector.mem_or_eq_of_mem_set (hi := i.isLt) (Vector.mem_toList_iff.1 hx) with hx | rfl
      · exact h.tables.1 x (Vector.mem_toList_iff.2 hx)
      · exact ⟨whole, bound⟩
    behind := fun going =>
      (h.behind going).of_entries (fill fun rest => by rw [rest] at going; cases going) held
    owed := fun r hr => by
      have wait : s.fill.state = .abandonWait := h.fill.owed.1 (Option.isSome_of_mem hr)
      rw [fill (by rw [wait]; decide)]
      exact h.owed r hr }

theorem beNat_three (x y z : Byte) : beNat [x, y, z] < Config.addressCount := by
  have := x.isLt; have := y.isLt; have := z.isLt
  simp only [beNat, List.foldl_cons, List.foldl_nil, Config.addressCount]; omega

/-- The entry a SEGMENT record writes ends at or above its start (R184). -/
theorem readSegment_entry {record : List Byte} {r : SegmentRecord} {i : SegmentIndex} {e : PlayEntry}
    (read : readSegment record = some r) (entry : r.entry = some (i, e)) :
    e.first ≤ e.last ∧ e.last < Config.addressCount := by
  have last : r.last < Config.addressCount := by
    rw [readSegment.eq_def] at read
    split at read
    · cases read; exact beNat_three _ _ _
    · cases read
  rw [SegmentRecord.entry] at entry
  split at entry
  · split at entry
    · cases entry
    · rename_i whole
      cases entry
      exact ⟨Nat.le_of_not_lt whole, last⟩
  · cases entry

/-- The profile a PROFILE record writes lies within the ranges (R131, R185). -/
theorem readProfile_bounds {record : List Byte} {index : Byte} {p : Profile}
    (read : readProfile record = some (index, p)) :
    p.rampLimit ≤ 8 ∧ p.fadeCode ≤ 6 ∧ 16 ≤ p.repairLead ∧ p.repairLead ≤ 255 := by
  rw [readProfile.eq_def] at read
  split at read
  · rename_i lead
    cases read
    have := lead.isLt
    exact ⟨Nat.min_le_right _ _, Nat.min_le_right _ _, Nat.le_max_right _ _, by simp only; omega⟩
  · cases read

/-- A PROFILE load (R132, R185). -/
theorem Kept.loadProfile (h : Kept P s) (i : ProfileIndex) {p : Profile}
    (bounds : p.rampLimit ≤ 8 ∧ p.fadeCode ≤ 6 ∧ 16 ≤ p.repairLead ∧ p.repairLead ≤ 255) :
    Kept P (s.loadProfile i p) := by
  have loaded : Kept P { s with table := s.table.setProfile i p } := { h with
    order := h.order.of_entries fun _ _ => rfl
    tables := by
      obtain ⟨entries, profiles, config⟩ := h.tables
      refine ⟨entries, fun x hx => ?_, config⟩
      rcases Vector.mem_or_eq_of_mem_set (hi := i.isLt) (Vector.mem_toList_iff.1 hx) with hx | rfl
      · exact profiles x (Vector.mem_toList_iff.2 hx)
      · exact bounds
    behind := fun going => (h.behind going).of_entries rfl fun _ _ => rfl }
  rw [State.loadProfile]
  split
  · exact loaded.of_view (State.refreshStep_view _)
  · exact loaded

/-- A CONFIG record is read clamped (R187). -/
theorem readConfig_bounds {record : List Byte} {c : ConfigRecord} (read : readConfig record = some c) :
    (1 ≤ c.window ∧ c.window ≤ 255) ∧ c.runIn ≤ 63 ∧ (1 ≤ c.retryLimit ∧ c.retryLimit ≤ 15)
    ∧ (1 ≤ c.skipAhead ∧ c.skipAhead ≤ 255) ∧ (1 ≤ c.abandonLimit ∧ c.abandonLimit ≤ 7)
    ∧ (1 ≤ c.attemptLimit ∧ c.attemptLimit ≤ 3) ∧ c.watchdogCode ≤ 3 ∧ c.settle ≤ 255 ∧ c.mask ≤ 7 := by
  rw [readConfig.eq_def] at read
  split at read
  · rename_i window _ _ skip _ _ _ settle _ _ _
    cases read
    have := window.isLt; have := skip.isLt; have := settle.isLt
    simp only
    omega
  · cases read

/-- A CONFIG load (R19, R90, R188): an empty store takes its depth and marks at once. -/
theorem Kept.configure (h : Kept P s) {record : List Byte} {c : ConfigRecord} (read : readConfig record = some c) :
    Kept P (s.configure c) := by
  have tables : TableLaw (s.configure c) := ⟨h.tables.1, h.tables.2.1, readConfig_bounds read⟩
  have fill : (s.configure c).FillSound := { h.fill with
    idle := fun live rest => by
      show min s.fill.retry c.retryLimit = 0
      rw [h.fill.idle live rest, Nat.zero_min]
    retry := Nat.min_le_right _ _ }
  by_cases empty : s.store.slots = []
  · have store : (s.configure c).store = ({ s.store with head := 0 } : Store).form c.depth c :=
      if_pos (by rw [Store.count, empty]; rfl)
    have slots : (s.configure c).store.slots = [] := by rw [store]; exact empty
    exact {
      store := by rw [store]; exact Store.sound_form (st := { s.store with head := 0 }) empty rfl h.store.dram _ _
      faults := by
        rw [show (s.configure c).faults = s.faults from rfl, h.faults.eq_nil empty]
        exact .of_empty slots
      payload := fun _ => .of_empty slots
      order := by rw [slots]; exact .nil _
      tables := tables
      run := h.run
      behind := fun going => by
        have b := h.behind going
        exact ⟨b.low, b.high, fun x hx => by rw [slots] at hx; cases hx⟩
      owed := h.owed
      expected := h.expected
      fill := fill }
  · have store : (s.configure c).store = { s.store with pendingDepth := some c.depth } :=
      if_neg (by rw [Store.count, List.length_eq_zero_iff]; exact empty)
    exact {
      store := by rw [store]; exact { h.store with }
      faults := by rw [store]; exact h.faults.of_ring rfl rfl rfl
      payload := fun p => by rw [store]; exact h.payload p
      order := by rw [store]; exact h.order.of_entries fun _ _ => rfl
      tables := tables
      run := h.run
      behind := fun going => by rw [store]; exact (h.behind going).of_entries rfl fun _ _ => rfl
      owed := h.owed
      expected := h.expected
      fill := fill }
end

end Sys2Proof.Machine
end

section
/-! SUPPORT. Every row and every step keep the laws. -/

namespace Sys2Proof.Machine

section
variable {P : Prop} {s : State}

/-! ### Every row -/

/-- What a row answers keeps the laws. -/
def AnswersKept (P : Prop) (e : Effect) : Prop := ∃ t, e = .next t ∧ Kept P t

/-- No arrival is MISSING (R34). -/
theorem arrivalOf_quality (f : SectorFrame) : (arrivalOf f).quality ≠ .missing := by
  simp only [arrivalOf, decodeQuality]
  split
  · decide
  · split <;> decide

theorem Kept.execSector (h : Kept P s) (f : SectorFrame) : AnswersKept P (execSector f s) := by
  refine ⟨_, rfl, ?_⟩
  split
  · rename_i size
    have voted : Kept P { s with link := s.link.countVote (arrivalOf f).address } := h.of_view rfl
    exact voted.arrive (arrivalOf_quality f) size
  · exact h

theorem Kept.execRefusedForwardUnit (h : Kept P s) (unit : List Byte) :
    AnswersKept P (execRefusedForwardUnit unit s) := by
  refine ⟨_, rfl, ?_⟩
  split
  · exact h.post _
  · exact h

theorem Kept.execPlay (h : Kept P s) (params : List Byte) : AnswersKept P (execPlay params s) :=
  ⟨_, rfl, by
    split
    · exact h.commanded _ _ fun _ => h.playAt _ _
    · exact h.commanded _ _ fun _ => h⟩

theorem Kept.execSetLevel (h : Kept P s) (params : List Byte) : AnswersKept P (execSetLevel params s) :=
  ⟨_, rfl, by
    split
    · exact h.commanded _ _ fun _ => (h.of_view rfl : Kept P (s.setLevel _)).answer _ _ _
    · exact h.commanded _ _ fun _ => h⟩

theorem Kept.execSetStop (h : Kept P s) (params : List Byte) : AnswersKept P (execSetStop params s) :=
  ⟨_, rfl, by
    split
    · exact h.commanded _ _ fun _ => h.setStop _
    · exact h.commanded _ _ fun _ => h⟩

theorem Kept.execSetRepeat (h : Kept P s) (params : List Byte) : AnswersKept P (execSetRepeat params s) :=
  ⟨_, rfl, by
    split
    · exact h.commanded _ _ fun _ => h.setRepeat _
    · exact h.commanded _ _ fun _ => h⟩

theorem Kept.execIdentify (h : Kept P s) (params : List Byte) : AnswersKept P (execIdentify params s) :=
  ⟨_, rfl, by
    split
    · exact h.commanded _ _ fun running => h.identifyDisc running _
    · exact h.commanded _ _ fun _ => h⟩

theorem Kept.execSoftReset (h : Kept P s) (params : List Byte) : AnswersKept P (execSoftReset params s) :=
  ⟨_, rfl, by
    split
    · exact h.resetSoft.answer _ _ _
    · exact h.answer _ _ _⟩

theorem Kept.execSegmentLoad (h : Kept P s) (record : List Byte) : AnswersKept P (execSegmentLoad record s) := by
  refine ⟨_, rfl, ?_⟩
  split
  · exact h.loaded _ _ fun _ => h
  · rename_i read
    refine h.loaded _ _ fun _ => ?_
    split
    · exact h.answer _ _ _
    · rename_i entry
      split
      · exact h.answer _ _ _
      · rename_i free
        obtain ⟨whole, bound⟩ := readSegment_entry read entry
        exact (h.setEntry (by simpa using free) whole bound).answer _ _ _

theorem Kept.execProfileLoad (h : Kept P s) (record : List Byte) : AnswersKept P (execProfileLoad record s) := by
  refine ⟨_, rfl, ?_⟩
  split
  · exact h.loaded _ _ fun _ => h
  · rename_i read
    refine h.loaded _ _ fun _ => ?_
    split
    · exact h.answer _ _ _
    · exact (h.loadProfile _ (readProfile_bounds read)).evaluateRepair.answer _ _ _

theorem Kept.execConfigLoad (h : Kept P s) (record : List Byte) : AnswersKept P (execConfigLoad record s) := by
  refine ⟨_, rfl, ?_⟩
  split
  · exact h.loaded _ _ fun _ => h
  · rename_i read
    refine h.loaded _ _ fun _ => ?_
    split
    · exact (h.configure read).answer _ _ _
    · exact h.answer _ _ _

theorem Kept.execResumeLoad (h : Kept P s) (record : List Byte) : AnswersKept P (execResumeLoad record s) := by
  refine ⟨_, rfl, ?_⟩
  split
  · exact h.loaded _ _ fun _ => h
  · refine h.loaded _ _ fun _ => ?_
    split
    · exact h.answer _ _ _
    · rename_i x _
      exact (h.of_view rfl : Kept P { s with
        tray := { s.tray with records := insertRecord s.tray.records x } }).answer _ _ _

theorem Kept.execUnknownCommandCode (h : Kept P s) (body : List Byte) :
    AnswersKept P (execUnknownCommandCode body s) := by
  refine ⟨_, rfl, ?_⟩
  split
  · exact h
  · exact h.commanded _ _ fun _ => h

theorem Kept.execUnknownTableFormat (h : Kept P s) (body : List Byte) :
    AnswersKept P (execUnknownTableFormat body s) := by
  refine ⟨_, rfl, ?_⟩
  split
  · exact h
  · exact h.loaded _ _ fun _ => h

theorem Kept.execSeekSend (h : Kept P s) : AnswersKept P (execSeekSend s) := by
  refine ⟨_, rfl, ?_⟩
  split
  · split <;> exact h.of_view rfl
  · exact h

theorem Kept.execReadPauseSend (h : Kept P s) : AnswersKept P (execReadPauseSend s) := by
  refine ⟨_, rfl, ?_⟩
  split <;> exact h.of_view rfl

theorem Kept.execReportSend (h : Kept P s) : AnswersKept P (execReportSend s) := by
  refine ⟨_, rfl, ?_⟩
  split
  · split <;> exact h.of_view rfl
  · exact h

theorem Kept.execHardReset (h : Kept P s) (line : TrayLine) : AnswersKept P (execHardReset line s) :=
  ⟨_, rfl, kept_of_lawful (lawful_hardReset line h.store.dram s.pending) fun _ =>
    payload_hardReset line s.store.dram s.pending⟩

/-- Every row keeps the laws, and the payloads where the DRAM keeps its bytes. -/
theorem Kept.exec (h : Kept P s) (c : Instr) (keeps : P → c.keepsDram = true) : AnswersKept P (exec c s) := by
  cases c with
  | hardReset line => exact h.execHardReset line
  | refusedForwardUnit unit => exact h.execRefusedForwardUnit unit
  | sector frame => exact h.execSector frame
  | seekDone tag status => exact ⟨_, rfl, h.seekAnswer tag status⟩
  | play params => exact h.execPlay params
  | pause params => exact ⟨_, rfl, h.commanded _ _ h.pauseNow⟩
  | resume params => exact ⟨_, rfl, h.commanded _ _ h.resumeNow⟩
  | stop params => exact ⟨_, rfl, h.commanded _ _ h.stopNow⟩
  | setLevel params => exact h.execSetLevel params
  | setStop params => exact h.execSetStop params
  | setRepeat params => exact h.execSetRepeat params
  | cue params => exact ⟨_, rfl, h.commanded _ _ fun _ => h.cueNow⟩
  | identify params => exact h.execIdentify params
  | ackTray params => exact ⟨_, rfl, h.commanded _ _ fun _ => h.ackTray⟩
  | clearTimebase params => exact ⟨_, rfl, h.commanded _ _ fun _ => h.clearTimer.answer _ _ _⟩
  | queryStatus rest => exact ⟨_, rfl, h.query _⟩
  | queryTable params => exact ⟨_, rfl, h.query params⟩
  | softReset params => exact h.execSoftReset params
  | segmentLoad record => exact h.execSegmentLoad record
  | profileLoad record => exact h.execProfileLoad record
  | configLoad record => exact h.execConfigLoad record
  | resumeLoad record => exact h.execResumeLoad record
  | openEdge => exact ⟨_, rfl, h.takeOpenEdge⟩
  | closeEdge => exact ⟨_, rfl, h.takeCloseEdge⟩
  | samplePeriod upset =>
    exact ⟨_, rfl, (h.upset fun p => List.isEmpty_iff.1 (keeps p)).takeDue.period⟩
  | blockPeriodEnd => exact ⟨_, rfl, h.takePeriodEnd⟩
  | watchdogExpiry => exact ⟨_, rfl, h.takeExpiry⟩
  | settleEnd => exact ⟨_, rfl, h.takeSettleEnd⟩
  | periodicPosition => exact ⟨_, rfl, h.takePeriodicPosition⟩
  | stopCompletion => exact ⟨_, rfl, h.takeStopCompletion⟩
  | pausedEntry => exact ⟨_, rfl, h.takePausedEntry⟩
  | saveStep => exact ⟨_, rfl, h.takeSaveStep⟩
  | dropped upset => exact ⟨_, rfl, (h.upset fun p => List.isEmpty_iff.1 (keeps p)).takeDropped⟩
  | startTestPass => exact ⟨_, rfl, h.takeStartTest⟩
  | starvedRecovery => exact ⟨_, rfl, h.takeStarvedRecovery⟩
  | refill => exact ⟨_, rfl, h.refillIfDue⟩
  | placeholderRun => exact ⟨_, rfl, h.takePlaceholderRun⟩
  | seekSend => exact h.execSeekSend
  | readPauseSend => exact h.execReadPauseSend
  | reportSend => exact h.execReportSend
  | reverseFrameEnd => exact ⟨_, rfl, h.of_view rfl⟩
  | unknownCommandCode body => exact h.execUnknownCommandCode body
  | unknownTableFormat body => exact h.execUnknownTableFormat body

/-- One step keeps the laws (log 1). -/
theorem Kept.step (h : Kept P s) (keeps : P → ∀ c ∈ s.pending.head?, c.keepsDram = true) {t : State}
    (next : step s = .next t) : Kept P t := by
  rw [Machine.step] at next
  split at next
  · cases next; exact h
  · rename_i c rest front
    have taken : Kept P { s with pending := rest } := h.of_view rfl
    obtain ⟨u, answer, kept⟩ := taken.exec c fun p => keeps p c (by rw [front]; rfl)
    rw [answer] at next
    cases next
    exact kept
end

/-- Settles O57: the laws in `Kept` hold of a lawful state, and every step keeps them; the payloads are kept under the
premise that they were there and that the row loses no byte. -/
theorem storeAndFaultLawsAreKept : Obligations.StoreAndFaultLawsAreKept := by
  intro s t lawful next
  have keep (P : Prop) (payload : P → PayloadLaw s) (keeps : P → ∀ c ∈ s.pending.head?, c.keepsDram = true) :
      Kept P t := (kept_of_lawful lawful payload).step keeps next
  obtain ⟨store, faults, -⟩ := (keep False nofun nofun).laws
  refine ⟨store, faults, fun payload keeps => ?_⟩
  obtain ⟨-, -, -, -, kept⟩ := (keep True (fun _ => payload) fun _ => keeps).laws
  exact kept trivial

/-- Settles O58: by the same invariant, which holds play order and the recovery context together with what they rest
on. -/
theorem orderAndFillLawsAreKept : Obligations.OrderAndFillLawsAreKept := by
  intro s t lawful next
  obtain ⟨-, -, order, fill, -⟩ := ((kept_of_lawful lawful (P := False) nofun).step nofun next).laws
  exact ⟨order, fill⟩

end Sys2Proof.Machine
end

section
/-! SUPPORT. QUERY of STATUS, RESET and the CONFIG load (spec/10). -/

namespace Sys2Proof.Machine

/-! ### QUERY of STATUS -/

theorem exec_queryStatus (rest : List Byte) (s : State) :
    exec (.queryStatus rest) s = .next (s.query (0x00#8 :: rest)) := rfl

/-- The selector of STATUS alone (R181, R182). -/
theorem State.query_status (s : State) : s.query [0x00#8] = s.queryStatus := rfl

/-- A QUERY of STATUS with bytes after its selector is INVALID (R181). -/
theorem State.query_status_long (s : State) (b : Byte) (rest : List Byte) :
    s.query (0x00#8 :: b :: rest) = s.post (.result .command 0x0C#8 .invalid false) := by
  cases rest <;> rfl

/-- Settles O30: field by field, the head's address by whether a slot is held and the offset by the cursor. -/
theorem queryStatusReadsTheState : Obligations.QueryStatusReadsTheState := by
  intro s
  refine ⟨?_, fun b rest => congrArg _ (s.query_status_long b rest)⟩
  rw [exec_queryStatus, State.query_status, State.queryStatus, State.statusReply, State.shownOffset,
    Store.count]
  cases s.store.slots <;> cases s.out.cursor <;> rfl

/-! ### RESET -/

theorem exec_softReset (s : State) :
    exec (.softReset []) s = .next (s.resetSoft.post (.result .command 0x0D#8 .done false)) :=
  rfl

/-- Settles O37: by the level of the tray line, which alone chooses between two values. -/
theorem softResetSetsAndKeeps : Obligations.SoftResetSetsAndKeeps := by
  intro s
  rw [exec_softReset, State.resetSoft]
  cases s.tray.line <;> rfl

/-! ### CONFIG load -/

theorem exec_configLoad {record : List Byte} {c : ConfigRecord} (read : readConfig record = some c) (s : State) :
    exec (.configLoad record) s = .next (s.loaded 0x13#8 true
      (if s.out.play = .idle ∨ s.out.play = .trayHold then (s.configure c).answer .table 0x13#8 .done
        else s.answer .table 0x13#8 .busy)) := by
  simp only [exec, execConfigLoad, read]

theorem State.loaded_running (s t : State) (format : Byte) (h : s.out.play ≠ .halted) : s.loaded format true t = t := by
  rw [State.loaded, if_neg h, if_pos rfl]

/-- The record with depth and marks formed at once (R19, R90, R188). -/
theorem State.configure_empty (s : State) (c : ConfigRecord) (empty : s.store.slots = []) : s.configure c
    = { s with
        table := { s.table with config := c }
        fill := { s.fill with retry := min s.fill.retry c.retryLimit }
        store := { s.store with head := 0 }.form c.depth c } := by
  rw [State.configure, if_pos (by rw [Store.count, empty]; rfl)]

/-- The record with its depth waiting for the flush (R19, R90, R188). -/
theorem State.configure_held (s : State) (c : ConfigRecord) (held : s.store.slots ≠ []) : s.configure c
    = { s with
        table := { s.table with config := c }
        fill := { s.fill with retry := min s.fill.retry c.retryLimit }
        store := { s.store with pendingDepth := some c.depth } } := by
  rw [State.configure, if_neg (by rw [Store.count, List.length_eq_zero_iff]; exact held)]

/-- A byte of a CONFIG record held within its range (R187). -/
def clampByte (lo hi : Nat) (b : Byte) : Nat := if b.toNat < lo then lo else if hi < b.toNat then hi else b.toNat

theorem clampByte_full (b : Byte) : max b.toNat 1 = clampByte 1 255 b := by
  have := b.isLt
  rw [clampByte]; split_ifs <;> omega

theorem clampByte_zero (hi : Nat) (b : Byte) : min b.toNat hi = clampByte 0 hi b := by
  rw [clampByte]; split_ifs <;> omega

theorem clampByte_one {hi : Nat} (pos : 1 ≤ hi) (b : Byte) : max 1 (clampByte 0 hi b) = clampByte 1 hi b := by
  rw [clampByte, clampByte]; split_ifs <;> omega

theorem positionModeOf_eq (b : Byte) : positionModeOf b
    = if b.toNat = 0 then .off else if b.toNat = 1 then .segment else .periodic := by
  rw [positionModeOf.eq_def]; split <;> simp_all

theorem sensitivityOf_eq (b : Byte) : sensitivityOf b = if b.toNat = 0 then .edge else .edgeAndLevel :=
  if_congr BitVec.toNat_inj.symm rfl rfl

theorem beNat_two (x y : Byte) : beNat [x, y] = 256 * x.toNat + y.toNat := by
  simp only [beNat, List.foldl_cons, List.foldl_nil]; omega

/-- A CONFIG record read: the first four fields as received, the others clamped (R187, R192). -/
theorem readConfig_eq (d1 d0 margin r1 r0 start window runIn retry skip abandon attempts code settle mask mode
    sensitivity : Byte) :
    readConfig [d1, d0, margin, r1, r0, start, window, runIn, retry, skip, abandon, attempts, code, settle, mask,
      mode, sensitivity] = some {
        depth := 256 * d1.toNat + d0.toNat, highMargin := margin.toNat, refill := 256 * r1.toNat + r0.toNat
        start := start.toNat, window := clampByte 1 255 window, runIn := clampByte 0 63 runIn
        retryLimit := clampByte 1 15 retry, skipAhead := clampByte 1 255 skip
        abandonLimit := clampByte 1 7 abandon, attemptLimit := clampByte 1 3 attempts
        watchdogCode := clampByte 0 3 code, settle := settle.toNat, mask := clampByte 0 7 mask
        positionMode := if mode.toNat = 0 then .off else if mode.toNat = 1 then .segment else .periodic
        sensitivity := if sensitivity.toNat = 0 then .edge else .edgeAndLevel } := by
  simp only [readConfig, clampByte_full, clampByte_zero, clampByte_one, Nat.one_le_ofNat, positionModeOf_eq,
    sensitivityOf_eq, beNat_two]

/-- Settles O34: the record as it is read, and in force by the occupancy. -/
theorem configLoadReplacesTheRecord : Obligations.ConfigLoadReplacesTheRecord := by
  intro s d1 d0 margin r1 r0 start window runIn retry skip abandon attempts code settle mask mode sensitivity
    record clamp c t
  have read : readConfig record = some c := readConfig_eq ..
  refine ⟨fun play => ⟨fun empty => ?_, fun held => ?_⟩, fun idle hold running => ?_⟩
  · have running : s.out.play ≠ .halted := by rcases play with p | p <;> rw [p] <;> decide
    rw [exec_configLoad read, State.loaded_running _ _ _ running, if_pos play, State.configure_empty s c empty]
    rfl
  · have running : s.out.play ≠ .halted := by rcases play with p | p <;> rw [p] <;> decide
    rw [exec_configLoad read, State.loaded_running _ _ _ running, if_pos play, State.configure_held s c held]
    rfl
  · rw [exec_configLoad read, State.loaded_running _ _ _ running, if_neg (not_or.2 ⟨idle, hold⟩)]
    rfl

end Sys2Proof.Machine
end

section
/-! SUPPORT. An arrival at E, short of its segment's end (spec/03, spec/04). -/

namespace Sys2Proof.Machine

/-! ### Arrivals by fill state -/

/-- An arrival at E in TRACKING or PAUSED_FULL (R47, R51). -/
theorem State.arrive_atE_tracking {s : State} {a : Arrival} {v : Vote} (at_E : a.address = some (s.track.expected, v))
    (active : s.fill.state = .tracking ∨ s.fill.state = .pausedFull) :
    s.arrive a = (s.appendAtE a).evaluateRepair := by
  rcases active with state | state <;> simp only [State.arrive, State.trackArrival, state, at_E, if_true]

/-- An arrival at E in RELOCKING (R75). -/
theorem State.arrive_atE_relocking {s : State} {a : Arrival} {v : Vote} (at_E : a.address = some (s.track.expected, v))
    (state : s.fill.state = .relocking) : s.arrive a = (s.relockAtE a v).evaluateRepair := by
  simp only [State.arrive, State.relockArrival, state, at_E, if_true]

/-- The state with E moved on by one (R47). -/
def State.movedOn (s : State) : State := { s with track := { s.track with expected := s.track.expected + 1 } }

/-- E moved on past a block that does not end its segment (R47). -/
theorem State.appended_movedOn {s : State} (q : Quality) (payload : List Byte)
    (inside : s.track.expected ≠ s.table.playList[s.track.segment].last) :
    (s.appended q payload).moveOn = (s.appended q payload).movedOn :=
  State.moveOn_of_ne _ inside

theorem State.highWaterTest_below {s : State} (below : ¬ s.store.highWater ≤ s.store.slots.length) :
    s.highWaterTest = s := if_neg fun full => below full.2

/-- PAUSED_FULL entered with the occupancy above the refill level: no REFILL follows (R85, R86). -/
theorem State.enterPausedFull_above {s : State} (above : s.store.refill < s.store.slots.length) :
    s.enterPausedFull = (s.outOfRecovery .pausedFull).pauseAsked := by
  have test : (s.outOfRecovery .pausedFull).pauseAsked.refillTest = false := by
    have : ¬ s.store.count ≤ s.store.refill := Nat.not_le.2 above
    simp [State.refillTest, State.pauseAsked, State.outOfRecovery, this]
  show State.refillIfDue (s.outOfRecovery .pausedFull).pauseAsked = _
  rw [State.refillIfDue, test]
  rfl

theorem State.highWaterTest_full {s : State} (tracking : s.fill.state = .tracking)
    (full : s.store.highWater ≤ s.store.slots.length) (marks : s.store.refill < s.store.highWater) :
    s.highWaterTest = (s.outOfRecovery .pausedFull).pauseAsked := by
  rw [State.highWaterTest, if_pos ⟨tracking, full⟩, State.enterPausedFull_above (marks.trans_le full)]

theorem State.appended_length (s : State) (q : Quality) (payload : List Byte) :
    (s.appended q payload).store.slots.length = s.store.slots.length + 1 := by
  simp [State.appended]

/-- Settles O39: by fill state and vote. -/
theorem sectorAtEIsAppended : Obligations.SectorAtEIsAppended := by
  intro s f v size address room new inside marks a moved full
  have takes : (s.heard f).store.takes (s.heard f).track.expected = true := (Store.takes_iff _ _).2 ⟨room, new⟩
  have past : ((s.heard f).appended (arrivalOf f).quality f.payload).moveOn = moved :=
    State.appended_movedOn (s := s.heard f) _ _ inside
  have past_resting (state : FillState) :
      (((s.heard f).outOfRecovery state).appended (arrivalOf f).quality f.payload).moveOn = moved.outOfRecovery state :=
    State.appended_movedOn (s := (s.heard f).outOfRecovery state) _ _ inside
  have past_paused : (((s.heard f).outOfRecovery .pausedFull).pauseAsked.appended (arrivalOf f).quality
      f.payload).moveOn = (moved.outOfRecovery .pausedFull).pauseAsked :=
    State.appended_movedOn (s := ((s.heard f).outOfRecovery .pausedFull).pauseAsked) _ _ inside
  have count : (moved.outOfRecovery .tracking).store.slots.length = s.store.slots.length + 1 :=
    State.appended_length _ _ _
  rw [exec_sector size]
  refine ⟨fun tracking low => ?_, fun tracking high => ?_, fun paused => ?_, fun relocking noisy => ?_,
    fun relocking clean low => ?_, fun relocking clean high => ?_⟩
  · rw [State.arrive_atE_tracking (s := s.heard f) address (.inl tracking), State.appendAtE_takes _ _ takes,
      State.pausedAtHighWater, if_neg fun h => low h.2]
    exact congrArg (Host.Outcome.next ∘ State.evaluateRepair) past
  · rw [State.arrive_atE_tracking (s := s.heard f) address (.inl tracking), State.appendAtE_takes _ _ takes,
      State.pausedAtHighWater, if_pos ⟨tracking, high⟩]
    exact congrArg (Host.Outcome.next ∘ State.evaluateRepair) past_paused
  · rw [State.arrive_atE_tracking (s := s.heard f) address (.inr paused), State.appendAtE_takes _ _ takes,
      State.pausedAtHighWater, if_neg fun h => by rw [State.heard_fill, paused] at h; cases h.1]
    exact congrArg (Host.Outcome.next ∘ State.evaluateRepair) past
  · subst noisy
    rw [State.arrive_atE_relocking (s := s.heard f) address relocking, State.relockAtE_noisy _ _ takes]
    refine congrArg Host.Outcome.next ((congrArg State.evaluateRepair past).trans (State.evaluateRepair_of_ne ?_ ?_))
    · show s.fill.state ≠ _; rw [relocking]; decide
    · show s.fill.state ≠ _; rw [relocking]; decide
  · subst clean
    rw [State.arrive_atE_relocking (s := s.heard f) address relocking, State.relockAtE_clean _ _ takes]
    have below := State.highWaterTest_below (s := moved.outOfRecovery .tracking) (by rw [count]; exact low)
    exact congrArg (Host.Outcome.next ∘ State.evaluateRepair)
      ((congrArg State.highWaterTest (past_resting .tracking)).trans below)
  · subst clean
    rw [State.arrive_atE_relocking (s := s.heard f) address relocking, State.relockAtE_clean _ _ takes]
    have reached := State.highWaterTest_full (s := moved.outOfRecovery .tracking) rfl (by rw [count]; exact high) marks
    exact congrArg (Host.Outcome.next ∘ State.evaluateRepair)
      ((congrArg State.highWaterTest (past_resting .tracking)).trans reached)

end Sys2Proof.Machine
end

section
/-! SUPPORT. Overlap arrivals and repairs (spec/03, spec/05). -/

namespace Sys2Proof.Machine

/-! ### Overlap arrivals -/

/-- The overlap range of a fill state (R49, R52, R74): in RELOCKING its low end is the target of a REPAIR, and END takes E
itself. -/
def State.overlapping (s : State) (addr : Addr) : Prop :=
  (addr < s.track.expected ∧ s.track.expected - s.table.config.window ≤ addr
      ∧ (s.fill.state = .tracking ∨ s.fill.state = .pausedFull ∨ s.fill.state = .abandonWait
        ∨ s.fill.state = .ended ∨ (s.fill.state = .relocking ∧ ∀ cause ∈ s.fill.active, cause.reason ≠ .repair)))
    ∨ (s.fill.state = .relocking ∧ addr < s.track.expected
      ∧ ∃ cause ∈ s.fill.active, cause.reason = .repair ∧ cause.target ≤ addr)
    ∨ (s.fill.state = .ended ∧ addr = s.track.expected)

theorem State.relockLow_other {s : State} (other : ∀ cause ∈ s.fill.active, cause.reason ≠ .repair) :
    s.relockLow = s.track.expected - s.table.config.window := by
  rw [State.relockLow]
  split
  · rename_i active
    exact absurd rfl (other _ active)
  · rfl

theorem State.relockLow_repair {s : State} {cause : ActiveCause} (active : s.fill.active = some cause)
    (repair : cause.reason = .repair) : s.relockLow = cause.target := by
  obtain ⟨reason, fault, target⟩ := cause
  simp only at repair
  rw [State.relockLow, active, repair]

/-- An arrival in the range of its fill state is an overlap arrival (R49, R52, R74). -/
theorem State.arrive_overlap {s : State} {a : Arrival} {addr : Addr} {v : Vote} (address : a.address = some (addr, v))
    (range : s.overlapping addr) : s.arrive a = (s.overlap addr a).evaluateRepair := by
  rcases range with ⟨below, above, state⟩ | ⟨relocking, below, cause, active, repair, target⟩ | ⟨ended, rfl⟩
  · have other : addr ≠ s.track.expected := Nat.ne_of_lt below
    rcases state with state | state | state | state | ⟨state, plain⟩
    · simp only [State.arrive, State.trackArrival, state, address, if_neg other, if_pos (And.intro above below)]
    · simp only [State.arrive, State.trackArrival, state, address, if_neg other, if_pos (And.intro above below)]
    · simp only [State.arrive, State.restArrival, state, address, if_pos (And.intro above (Or.inl below))]
    · simp only [State.arrive, State.restArrival, state, address, if_pos (And.intro above (Or.inl below))]
    · simp only [State.arrive, State.relockArrival, state, address, if_neg other, State.relockLow_other plain,
        if_pos (And.intro above below)]
  · have other : addr ≠ s.track.expected := Nat.ne_of_lt below
    simp only [State.arrive, State.relockArrival, relocking, address, if_neg other,
      State.relockLow_repair active repair, if_pos (And.intro target below)]
  · have above : s.track.expected - s.table.config.window ≤ s.track.expected := Nat.sub_le _ _
    simp only [State.arrive, State.restArrival, ended, address, above, lt_irrefl, and_self, or_true, if_true]

/-- The address map finds no slot: the arrival is discarded (R49). -/
theorem State.overlap_unheld {s : State} {addr : Addr} (a : Arrival)
    (none_holds : ∀ x ∈ s.store.slots, x.address ≠ addr) : s.overlap addr a = s := by
  rw [State.overlap, Store.lookup_eq_none _ _ none_holds]

/-- The first slot that holds the address is repaired, or the arrival is discarded (R14, R49). -/
theorem State.overlap_held {s : State} {front back : List Slot} {x : Slot} (a : Arrival)
    (held : s.store.slots = front ++ x :: back) (first : ∀ y ∈ front, y.address ≠ x.address) :
    s.overlap x.address a
      = if x.quality = .damaged ∧ a.quality.readable = true ∧ s.heldForOutput front.length = false
        then s.replaceAt front.length x a else s := by
  have found : s.store.slots[front.length]? = some x := by rw [held]; simp
  simp only [State.overlap, Store.lookup_eq_some _ _ front back x held rfl first, found]

/-- The state in which the slot at a position has been repaired, before its report (R14, R102, R103). -/
theorem State.replaceAt_eq {s : State} {front back : List Slot} {x : Slot} (a : Arrival)
    (held : s.store.slots = front ++ x :: back) :
    let slot := (s.store.head + front.length) % s.store.depth
    s.replaceAt front.length x a = State.post { s with
        store := { s.store with
          slots := front ++ { x with quality := a.quality, check := some (crc16 a.payload), listed := false } :: back
          dram := Memory.write s.store.dram (1920 * slot) a.payload }
        faults := if x.listed then s.faults.filter (fun e => e.slot ≠ slot) else s.faults }
      (.repaired x.address x.segment a.quality
        (if x.listed then (s.faults.find? (fun e => e.slot = slot)).map FaultEntry.attempts else none) front.length) := by
  intro slot
  have set (y : Slot) : s.store.slots.set front.length y = front ++ y :: back := by simp [held]
  have physical : s.store.physical front.length = slot := rfl
  have gone : removeFault s.faults slot = s.faults.filter (fun e => decide (e.slot ≠ slot)) :=
    List.filter_congr fun e _ => (decide_not ..).symm
  have entry : faultOf s.faults slot = s.faults.find? (fun e => decide (e.slot = slot)) := by
    rw [faultOf]; congr 1
  simp only [State.replaceAt, set, physical, gone, entry]
  congr 2
  split <;> rfl

theorem Quality.readable_iff {q : Quality} : q.readable = true ↔ q = .clean ∨ q = .repaired := by
  cases q <;> decide

/-- Settles O42: the arrival is an overlap in its range, at no slot or at the first that holds the address. -/
theorem overlapRepairsADamagedSlot : Obligations.OverlapRepairsADamagedSlot := by
  refine ⟨State.heldForOutput_iff, fun s f addr v size address range => ?_⟩
  have overlap : exec (.sector f) s = .next ((s.heard f).overlap addr (arrivalOf f)).evaluateRepair := by
    rw [exec_sector size, State.arrive_overlap (s := s.heard f) address range]
  refine ⟨fun unheld => ?_, ?_⟩
  · rw [overlap, State.overlap_unheld (s := s.heard f) _ unheld]
  · rintro front back x held rfl first i slot q attempts h repaired
    rw [overlap, State.overlap_held (s := s.heard f) _ held first]
    refine ⟨fun damaged good free => ?_, fun other => ?_⟩
    · rw [if_pos ⟨damaged, Quality.readable_iff.2 good, free⟩, State.replaceAt_eq (s := s.heard f) _ held]
      rfl
    · rw [if_neg]
      rintro ⟨damaged, readable, free⟩
      rcases other with good | bad | busy
      · exact good damaged
      · rw [show (arrivalOf f).quality = _ from bad] at readable; cases readable
      · rw [show s.heldForOutput front.length = false from free] at busy; cases busy

end Sys2Proof.Machine
end

section
/-! SUPPORT. Abandons after their run, and REFILL (spec/04). -/

namespace Sys2Proof.Machine

/-! ### An owed run -/

theorem exec_placeholderRun (s : State) : exec .placeholderRun s = .next s.takePlaceholderRun := rfl

/-- The owed run is appended as soon as the store admits it (R82). -/
theorem State.takePlaceholderRun_eq {s : State} {run : OwedRun} (wait : s.fill.state = .abandonWait)
    (owed : s.fill.owed = some run) : s.takePlaceholderRun
      = if s.store.admitsRun run.first run.length = true
        then ((s.outOfRecovery .abandonWait).appendRun run.first run.length).continueAbandon (run.first + run.length - 1)
        else s := by
  simp only [State.takePlaceholderRun, owed, wait, true_and]
  rfl

/-! ### The abandon goes on -/

/-- The run has reached the segment end, which ends the fill (R56, R83, log 29). -/
theorem State.continueAbandon_ends {s : State} {last : Nat} (live : s.fill.state ≠ .pausedFull)
    (at_end : last = (s.table.entry s.track.segment).last) (crossing : s.table.crossing s.track.segment = .ends) :
    s.continueAbandon last
      = (State.outOfRecovery { s.runCleared with track := { s.runCleared.track with expected := last } }
        .ended).pauseAsked := by
  rw [State.continueAbandon, if_pos at_end]
  simp only [crossing]
  exact State.enterEnd_of_ne _ live

/-- The run has reached the segment end, and the fill goes to another segment (R56, R83). -/
theorem State.continueAbandon_crosses {s : State} {last : Nat} {n : SegmentIndex} {usesCue : Bool}
    (at_end : last = (s.table.entry s.track.segment).last)
    (crossing : s.table.crossing s.track.segment = .goes n usesCue) : s.continueAbandon last
      = (s.runCleared.crossedTo n usesCue).seekIssued
        (if (s.table.entry n).first = last + 1 then .skip else .segment) none 0 := by
  rw [State.continueAbandon, if_pos at_end]
  simp only [crossing]
  exact State.issueNew_none _ _

/-- The state in which E stands behind a run that ended at `last`, with one more abandon counted (R83). -/
def State.abandonCounted (s : State) (last : Nat) : State :=
  { s.runCleared with
    track := { s.runCleared.track with expected := last + 1 }
    fill := { s.runCleared.fill with abandon := s.fill.abandon + 1 } }

/-- The run has ended inside the segment: another SKIP, or a give-up above the limit (R83, R84). -/
theorem State.continueAbandon_inside {s : State} {last : Nat} (inside : last ≠ (s.table.entry s.track.segment).last) :
    s.continueAbandon last = if s.table.config.abandonLimit < s.fill.abandon + 1 then (s.abandonCounted last).giveUp
      else (s.abandonCounted last).seekIssued .skip none 0 := by
  rw [State.continueAbandon, if_neg inside, ← State.issueNew_none]
  rfl

/-- A give-up that ends the fill (R84). -/
theorem State.giveUp_ends {s : State} (live : s.fill.state ≠ .pausedFull)
    (crossing : s.table.crossing s.track.segment = .ends) : s.giveUp
      = (State.outOfRecovery { s with store := s.store.markTail } .ended).pauseAsked.post
        (.segmentGivenUp s.track.segment s.track.expected none) := by
  simp only [State.giveUp, crossing]
  exact congrArg (State.post · _) (State.enterEnd_of_ne _ live)

/-- A give-up that goes to another segment (R84). -/
theorem State.giveUp_crosses {s : State} {n : SegmentIndex} {usesCue : Bool}
    (crossing : s.table.crossing s.track.segment = .goes n usesCue) : s.giveUp
      = ((State.crossedTo { s with store := s.store.markTail } n usesCue).post
        (.segmentGivenUp s.track.segment s.track.expected (some n))).seekIssued .segment none 0 := by
  simp only [State.giveUp, crossing]
  exact State.issueNew_none _ _

/-! ### REFILL -/

theorem exec_refill (s : State) : exec .refill s = .next s.refillIfDue := rfl

/-- The address map finds an address exactly where a slot holds it (R7). -/
theorem Store.holds_iff (st : Store) (a : Addr) : st.holds a = true ↔ ∃ x ∈ st.slots, x.address = a := by
  simp [Store.holds]

/-- The REFILL test (R86). -/
theorem State.refillTest_iff (s : State) : s.refillTest = true ↔ s.fill.state = .pausedFull
    ∧ s.store.slots.length ≤ s.store.refill ∧ ¬ ∃ x ∈ s.store.slots, x.address = s.track.expected := by
  rw [← Store.holds_iff, State.refillTest, Bool.and_eq_true, Bool.and_eq_true, beq_iff_eq, decide_eq_true_iff,
    Bool.not_eq_true', Bool.not_eq_true, and_assoc]
  rfl

/-- Settles O47: the run by the store's test, the abandon by the end of its run and the crossing, REFILL by its test. -/
theorem abandonsGoOnAfterTheirRun : Obligations.AbandonsGoOnAfterTheirRun := by
  refine ⟨fun s run wait owed => ?_, fun s last live => ?_, fun s => ⟨fun paused low free => ?_, fun shut => ?_⟩⟩
  · intro room
    rw [exec_placeholderRun, State.takePlaceholderRun_eq wait owed]
    have admits := Store.admitsRun_iff s.store run.first run.length
    refine ⟨fun fits => ?_, fun blocked => ?_⟩
    · rw [if_pos (admits.2 fits)]
      rfl
    · rw [if_neg fun h => blocked (admits.1 h)]
  · intro r ends
    refine ⟨fun at_end => ⟨State.continueAbandon_ends live at_end, fun n usesCue =>
      State.continueAbandon_crosses at_end⟩, fun inside => ?_⟩
    intro t
    rw [State.continueAbandon_inside inside]
    refine ⟨fun below => if_neg (Nat.not_lt.2 below), fun front tail above held => ?_⟩
    intro m
    have marked : s.store.markTail = { s.store with slots := front ++ [{ tail with cutAfter := true }] } :=
      Store.markTail_append _ _ _ held
    have tail_marked : { s.abandonCounted last with store := (s.abandonCounted last).store.markTail } = m :=
      congrArg (fun st => { s.abandonCounted last with store := st }) marked
    rw [if_pos above]
    refine ⟨fun crossing => ?_, fun n usesCue crossing => ?_⟩
    · rw [State.giveUp_ends (s := s.abandonCounted last) live crossing, tail_marked]
      rfl
    · rw [State.giveUp_crosses (s := s.abandonCounted last) crossing, tail_marked]
      rfl
  · rw [exec_refill, State.refillIfDue, if_pos (s.refillTest_iff.2 ⟨paused, low, free⟩), State.issueNew_none]
  · rw [exec_refill, State.refillIfDue, if_neg]
    intro due
    obtain ⟨paused, low, free⟩ := s.refillTest_iff.1 due
    rcases shut with other | above | held
    · exact other paused
    · exact absurd low (Nat.not_le.2 above)
    · exact free held

end Sys2Proof.Machine
end

section
/-! SUPPORT. DROPPED, the end of a long plan, and a slot that becomes the head (spec/06, spec/07). -/

namespace Sys2Proof.Machine

/-! ### DROPPED -/

theorem exec_dropped (upset : List (Nat × Byte)) (s : State) :
    exec (.dropped upset) s = .next (s.withLoss upset).takeDropped := rfl

/-- The change to DROPPED is due (R147, R150). -/
theorem State.dropDue_of {s : State} {p : Plan} (plan : s.out.plan = some p) (kind : p.kind = .drop)
    (phase : p.phase = .fading) (silent : s.gain.fade = 0) (moving : s.moving = true) : s.dropDue = true := by
  simp [State.dropDue, plan, kind, phase, silent, moving]

theorem State.dropRun_zero (s : State) : State.dropRun 0 s = s := rfl

/-- One slot of the run leaves the store, the head for no samples (R126, R147). -/
theorem State.dropRun_succ {s : State} {x : Slot} {rest : List Slot} (held : s.store.slots = x :: rest) (n : Nat) :
    State.dropRun (n + 1) s = State.dropRun n ((s.segmentEntered x 0).consumedHead x rest) := by
  have entered : (s.segmentEntered x 0).store.slots = x :: rest := by rw [State.segmentEntered_store, held]
  simp only [State.dropRun, held]
  rw [State.enterSegment_eq, State.consume_eq _ _ _ entered]

/-! ### The plan end -/

/-- The head read and verified (R23). -/
theorem Store.readBlock_head {st : Store} {x : Slot} {rest : List Slot} (held : st.slots = x :: rest) :
    st.readBlock 0 = if some (crc16 (Memory.readArea st.dram (st.head % st.depth))) = x.check
      then some (pairsOf (Memory.readArea st.dram (st.head % st.depth))) else none :=
  st.readBlock_eq 0 x (by rw [held]; rfl)

theorem Quality.not_readable_iff {q : Quality} : q.readable = false ↔ q = .damaged ∨ q = .missing := by
  cases q <;> decide

theorem State.planEnd_empty {s : State} (kind : PlanKind) (empty : s.store.slots = []) :
    s.planEnd kind = s.boundaryTested := by
  simp only [State.planEnd, empty, State.boundaryTest_eq]

theorem State.planEnd_bad {s : State} (kind : PlanKind) {x : Slot} {rest : List Slot} (held : s.store.slots = x :: rest)
    (bad : x.quality.readable = false) : s.planEnd kind = s.boundaryTested := by
  simp only [State.planEnd, held, bad, Bool.false_eq_true, if_false, State.boundaryTest_eq]

/-- A good follower whose check word fails halts the part (R151). -/
theorem State.planEnd_failed {s : State} (kind : PlanKind) {x : Slot} {rest : List Slot}
    (held : s.store.slots = x :: rest) (good : x.quality.readable = true) (failed : s.store.readBlock 0 = none) :
    s.planEnd kind = State.post (State.haltedAsItStands { s with out := { s.out with cursor := .next } })
      (.halted ⟨x.segment, x.address, 0⟩ kind) := by
  simp only [State.planEnd, held, good, failed, if_true, State.halt_eq]

/-- The target of a raise once a slot has become the head is that of before (R114). -/
theorem State.segmentEntered_raisedTarget (s : State) (x : Slot) (o : Nat) : (s.segmentEntered x o).raisedTarget
    = if s.out.play = .pausing ∨ s.out.play = .stopping ∨ s.out.play = .starved ∨ s.out.play = .trayHold
      then s.gain.target else 32768 := by
  rw [State.raisedTarget_eq, State.segmentEntered_play, State.segmentEntered_target]

theorem Profile.fadeStep_eq (p : Profile) : p.fadeStep = 32768 / (64 * 2 ^ p.fadeCode) := rfl

/-- A good follower is read under the plan and fades in from 0 (R148). -/
theorem State.planEnd_good {s : State} (kind : PlanKind) {x : Slot} {rest : List Slot} {pairs : List Pair}
    (held : s.store.slots = x :: rest) (good : x.quality.readable = true) (read : s.store.readBlock 0 = some pairs) :
    let e := { s with out := { s.out with plan := none } }.segmentEntered x 0
    s.planEnd kind = { e with
      out := { e.out with buffer := pairs, cursor := .head 0, afterCut := false }
      gain := { e.gain with
        fade := 0
        target := if s.out.play = .pausing ∨ s.out.play = .stopping ∨ s.out.play = .starved
          ∨ s.out.play = .trayHold then s.gain.target else 32768
        step := 32768 / (64 * 2 ^ (s.table.profileOf x.segment).fadeCode)
        source := .currentProfile } } := by
  intro e
  have target : e.raisedTarget = if s.out.play = .pausing ∨ s.out.play = .stopping ∨ s.out.play = .starved
      ∨ s.out.play = .trayHold then s.gain.target else 32768 :=
    State.segmentEntered_raisedTarget { s with out := { s.out with plan := none } } x 0
  have table : e.table = s.table := State.segmentEntered_table _ _ _
  rw [← target, ← table, ← Profile.fadeStep_eq]
  simp only [State.planEnd, held, good, read, if_true, State.enterSegment_eq]
  rfl

/-- Settles O51: the run slot by slot, and the plan end by its follower. -/
theorem droppedRunsLeaveTheStore : Obligations.DroppedRunsLeaveTheStore := by
  refine ⟨?_, fun s n x rest held => ⟨State.dropRun_succ held n, State.dropRun_zero s⟩, fun s kind =>
    ⟨State.planEnd_empty kind, fun x rest held => ?_⟩⟩
  · intro s upset p plan kind phase silent moving t
    have due := State.dropDue_of (s := s.withLoss upset) plan kind phase silent ((State.moving_iff _).2 moving)
    rw [exec_dropped, State.takeDropped, due, if_pos rfl, State.dropPlan, show (s.withLoss upset).out.plan = _ from plan]
  · intro bytes
    have read := Store.readBlock_head held
    refine ⟨fun bad => State.planEnd_bad kind held (Quality.not_readable_iff.2 bad), fun good passed => ?_,
      fun good failed => ?_⟩
    · exact State.planEnd_good kind held (Quality.readable_iff.2 good) (read.trans (if_pos passed))
    · exact State.planEnd_failed kind held (Quality.readable_iff.2 good) (read.trans (if_neg failed))

/-! ### A slot becomes the head -/

theorem exec_samplePeriod (upset : List (Nat × Byte)) (s : State) :
    exec (.samplePeriod upset) s = .next (s.withLoss upset).takeDue.period := rfl

/-- With nothing due, a sample period takes no event (log 2). -/
theorem State.takeDue_of_nothingDue {s : State} (h : s.nothingDue) : s.takeDue = s := by
  obtain ⟨samples, expiry, settle, position, drop, completion, refill, owed, start, starved⟩ := h
  have silent (silent : s.gain.fade = 0) :
      s.out.play ≠ .pausing ∧ s.out.play ≠ .stopping ∧ s.beforeSave = false := by
    simpa [State.completionDue, silent, and_assoc] using completion
  have periodEnd : s.takePeriodEnd = s := if_neg (by simpa [State.periodEndDue] using samples)
  have expired : s.takeExpiry = s := if_neg (by simp [expiry])
  have settled : s.takeSettleEnd = s := if_neg (by simp [settle])
  have positioned : s.takePeriodicPosition = s := if_neg (by simp [position])
  have dropped : s.takeDropped = s := if_neg (by simp [drop])
  have paused : s.takePausedEntry = s := if_neg fun due => (silent due.2).1 due.1
  have stopped : s.takeStopCompletion = s := if_neg fun due => (silent due.2).2.1 due.1
  have saved : s.takeSaveStep = s := if_neg fun due => by
    have := due.1.symm.trans (silent due.2).2.2
    cases this
  have refilled : s.takeRefill = s := if_neg (by simp [refill])
  have run : s.takePlaceholderRun = s := by
    rw [State.takePlaceholderRun]
    split
    · rfl
    · rename_i r owes
      exact if_neg fun due => by rw [owed due.1 r owes] at due; cases due.2
  have started : s.takeStartTest = s := if_neg fun due => by rw [start due.1] at due; cases due.2
  have recovered : s.takeStarvedRecovery = s := if_neg fun due => by
    rw [starved due.1 due.2.1] at due; cases due.2.2
  rw [State.takeDue, periodEnd, expired, settled, positioned, dropped, paused, stopped, saved, refilled, run, started,
    recovered]

@[simp] theorem State.post_cursor (s : State) (r : Report) : (s.post r).out.cursor = s.out.cursor := by
  rw [State.post_out]

theorem State.planRun_cursor (s : State) (slot : Slot) (offset : Nat) (first : FirstSlot) :
    (s.planRun slot offset first).out.cursor = .head offset := by
  rw [State.planRun]
  split
  · split
    · exact State.post_cursor _ _
    · exact State.post_cursor _ _
  · simp only [State.beginPlan.eq_def]
    split <;> exact State.post_cursor _ _

/-- Whatever becomes of the slot, the cursor has it as its head (R117, log 19). -/
theorem State.becomeHead_cursor {s : State} (held : s.store.slots ≠ []) :
    s.becomeHead.out.cursor = .head s.out.startOffset := by
  rw [State.becomeHead]
  split
  · rename_i empty; exact absurd empty held
  · simp only
    split
    · rfl
    · split
      · split
        · rfl
        · exact State.planRun_cursor _ _ _ _
      · split
        · rfl
        · exact State.planRun_cursor _ _ _ _
      · exact State.planRun_cursor _ _ _ _
      · exact State.planRun_cursor _ _ _ _

/-- The head is taken once in a period (R117). -/
theorem State.period_becomeHead {s : State} (due : s.headDue = true) (held : s.store.slots ≠ []) :
    s.period = s.becomeHead.period := by
  have taken : s.becomeHead.headDue = false := by
    simp [State.headDue, State.becomeHead_cursor held]
  rw [State.period, State.period, due, taken]
  rfl

/-- The after-cut fade-in of a slot that has become the head (R114, R149). -/
theorem State.takeAfterCut_eq (s : State) (x : Slot) (o : Nat) :
    let e := s.segmentEntered x o
    e.takeAfterCut = if s.out.afterCut then { e with
        out := { e.out with afterCut := false }
        gain := { e.gain with
          target := if s.out.play = .pausing ∨ s.out.play = .stopping ∨ s.out.play = .starved
            ∨ s.out.play = .trayHold then s.gain.target else 32768
          step := 32768 / (64 * 2 ^ (s.table.profileOf x.segment).fadeCode)
          source := .currentProfile } }
      else e := by
  intro e
  have profile : e.currentProfile = s.table.profileOf x.segment := by
    simp only [State.currentProfile, e, State.segmentEntered_segment, State.segmentEntered_table]
  rw [State.takeAfterCut, State.afterCutFadeIn, State.segmentEntered_raisedTarget, State.segmentEntered_afterCut, profile]
  rfl

theorem State.becomeHead_plan {s : State} {x : Slot} {rest : List Slot} (held : s.store.slots = x :: rest)
    (plan : s.out.plan.isSome = true) :
    let e := s.segmentEntered x s.out.startOffset
    s.becomeHead = { e with out := { e.out with cursor := .head s.out.startOffset } } := by
  obtain ⟨p, plan⟩ := Option.isSome_iff_exists.1 plan
  simp only [State.becomeHead, held, State.enterSegment_eq, State.segmentEntered_plan, plan]

theorem State.takeAfterCut_store (s : State) : s.takeAfterCut.store = s.store :=
  congrArg FillView.store s.takeAfterCut_view

/-- A good head whose check word passes is read, and begins at the start offset (R23, R117). -/
theorem State.becomeHead_read {s : State} {x : Slot} {rest : List Slot} {pairs : List Pair}
    (held : s.store.slots = x :: rest) (plan : s.out.plan = none) (good : x.quality.readable = true)
    (read : s.store.readBlock 0 = some pairs) :
    let a := (s.segmentEntered x s.out.startOffset).takeAfterCut
    s.becomeHead = { a with out := { a.out with buffer := pairs, cursor := .head s.out.startOffset } } := by
  intro a
  have read : a.store.readBlock 0 = some pairs := by
    rw [State.takeAfterCut_store, State.segmentEntered_store, read]
  simp only [State.becomeHead, held, State.enterSegment_eq, State.segmentEntered_plan, plan]
  rcases Quality.readable_iff.1 good with quality | quality
  · simp only [quality]; rw [read]
  · simp only [quality]; rw [read]

/-- A good head whose check word fails begins a run (R117, R126). -/
theorem State.becomeHead_failed {s : State} {x : Slot} {rest : List Slot} (held : s.store.slots = x :: rest)
    (plan : s.out.plan = none) (good : x.quality.readable = true) (failed : s.store.readBlock 0 = none) :
    s.becomeHead = (s.segmentEntered x s.out.startOffset).takeAfterCut.planRun x s.out.startOffset .check := by
  have failed : (s.segmentEntered x s.out.startOffset).takeAfterCut.store.readBlock 0 = none := by
    rw [State.takeAfterCut_store, State.segmentEntered_store, failed]
  simp only [State.becomeHead, held, State.enterSegment_eq, State.segmentEntered_plan, plan]
  rcases Quality.readable_iff.1 good with quality | quality
  · simp only [quality]; rw [failed]
  · simp only [quality]; rw [failed]

/-- A bad head begins a run and is not read (R117, R126). -/
theorem State.becomeHead_bad {s : State} {x : Slot} {rest : List Slot} (held : s.store.slots = x :: rest)
    (plan : s.out.plan = none) :
    let a := (s.segmentEntered x s.out.startOffset).takeAfterCut
    (x.quality = .damaged → s.becomeHead = a.planRun x s.out.startOffset .damaged)
    ∧ (x.quality = .missing → s.becomeHead = a.planRun x s.out.startOffset .missing) := by
  refine ⟨fun quality => ?_, fun quality => ?_⟩ <;>
    simp only [State.becomeHead, held, State.enterSegment_eq, State.segmentEntered_plan, plan, quality]

/-- Settles O55: the head is taken once, and is read or begins a run by its plan, quality and check word. -/
theorem headsAreReadAndVerified : Obligations.HeadsAreReadAndVerified := by
  refine ⟨fun s upset quiet next _ moving held => ?_, fun s x rest held => ?_⟩
  · have due : (s.withLoss upset).headDue = true := by
      rw [State.headDue, (State.moving_iff (s.withLoss upset)).2 moving, show (s.withLoss upset).out.cursor = _ from next]
      rfl
    have quiet : (s.withLoss upset).nothingDue := quiet
    rw [exec_samplePeriod, State.takeDue_of_nothingDue quiet, State.period_becomeHead due held]
  · intro off e bytes a
    have cut : a = e.takeAfterCut := (State.takeAfterCut_eq s x off).symm
    have read := Store.readBlock_head held
    rw [cut]
    refine ⟨State.becomeHead_plan held, fun plan => ⟨fun good passed => ?_, fun good failed => ?_, ?_⟩⟩
    · exact State.becomeHead_read held plan (Quality.readable_iff.2 good) (read.trans (if_pos passed))
    · exact State.becomeHead_failed held plan (Quality.readable_iff.2 good) (read.trans (if_neg failed))
    · exact State.becomeHead_bad held plan

end Sys2Proof.Machine
end

section
/-! SUPPORT. A block played pair by pair (spec/06). -/

namespace Sys2Proof.Machine

/-! ### One more sample period counted -/

/-- The state with one more sample period counted (R113). -/
def State.counted (s : State) : State := { s with out := { s.out with samples := s.out.samples + 1 } }

theorem State.post_counted (s : State) (r : Report) : s.counted.post r = (s.post r).counted := by
  by_cases masked : r.level ≤ s.table.config.mask ∧ r.level ≠ 7
  · have post : s.post r = s := if_pos masked
    rw [post]
    exact if_pos masked
  · have post : s.post r = { s with reports := placeReport s.reports r } := if_neg masked
    rw [post]
    exact if_neg masked

theorem State.consumedHead_counted (s : State) (x : Slot) (rest : List Slot) :
    s.counted.consumedHead x rest = (s.consumedHead x rest).counted := rfl

/-- Nothing in a block boundary reads the count of sample periods (R118). -/
theorem State.boundaryTested_counted (s : State) : s.counted.boundaryTested = s.boundaryTested.counted := by
  rcases held : s.store.slots with _ | ⟨x, rest⟩
  · simp only [State.boundaryTested, show s.counted.store.slots = [] from held, held]
    by_cases playing : s.out.play = .playing
    · by_cases ended : s.fill.state = .ended
      · rw [if_neg (not_not_intro (show s.counted.out.play = _ from playing)),
          if_neg (not_not_intro (show s.counted.fill.state = _ from ended)), if_neg (not_not_intro playing),
          if_neg (not_not_intro ended), ← State.post_counted]
        rfl
      · rw [if_neg (not_not_intro (show s.counted.out.play = _ from playing)),
          if_pos (show s.counted.fill.state ≠ _ from ended), if_neg (not_not_intro playing), if_pos ended,
          ← State.post_counted]
        rfl
    · rw [if_pos (show s.counted.out.play ≠ _ from playing), if_pos playing]
      rfl
  · simp only [State.boundaryTested, show s.counted.store.slots = x :: rest from held, held]
    rfl

/-! ### A pair of a block with no plan in force -/

/-- The Gain Unit's part of a period under no plan (R133, R134, R138). -/
theorem State.sound_counted {s : State} (plan : s.out.plan = none) (pair : Pair) :
    (s.sound pair).counted = s.sounded pair := by
  simp only [State.sound, State.counted, State.sounded, plan, Option.map_none, moveFade]

/-- The gain after a cut fade has been asked for at an offset, where it is due and g is above 0 (R135, R149). -/
def State.cutGain (s : State) (x : Slot) (off : Nat) : Gain :=
  let fc := min (64 * 2 ^ s.currentProfile.fadeCode) 256
  if x.cutAfter = true ∧ off + fc = 480 ∧ 0 < s.gain.fade
  then { s.gain with target := 0, step := 32768 / fc, source := StepSource.fixed } else s.gain

/-- Nothing is marked in a plan that is not in force. -/
theorem State.mapPlan_none {s : State} (plan : s.out.plan = none) (f : Plan → Plan) :
    { s with out := { s.out with plan := s.out.plan.map f } } = s := by
  have same : s.out.plan.map f = s.out.plan := by rw [plan]; rfl
  rw [same]

/-- The cut fade of a block with no plan in force (R149). -/
theorem State.requestCut_noPlan {s : State} {x : Slot} {rest : List Slot} (held : s.store.slots = x :: rest)
    (plan : s.out.plan = none) (off : Nat) : s.requestCut off = { s with gain := s.cutGain x off } := by
  have due : s.cutDue x off = true
      ↔ x.cutAfter = true ∧ off + min (64 * 2 ^ s.currentProfile.fadeCode) 256 = 480 := by
    simp [State.cutDue, plan, cutLength, fadeLength, Config.pairsPerBlock]
  simp only [State.requestCut, held, State.cutGain]
  by_cases cut : x.cutAfter = true ∧ off + min (64 * 2 ^ s.currentProfile.fadeCode) 256 = 480
  · rw [if_pos (due.2 cut)]
    by_cases loud : 0 < s.gain.fade
    · rw [if_pos loud, if_pos ⟨cut.1, cut.2, loud⟩, State.mapPlan_none (s := s.fixedFade _) plan]
      rfl
    · rw [if_neg loud, if_neg fun h => loud h.2.2, State.mapPlan_none plan]
  · rw [if_neg fun h => cut (due.1 h), if_neg fun h => cut ⟨h.1, h.2.1⟩]

/-- The pair handed on of a block with no plan in force, and the cursor moved (R113). -/
theorem State.handOn_noPlan {s : State} {x : Slot} {rest : List Slot} {off : Nat} (moving : s.moving = true)
    (cursor : s.out.cursor = .head off) (held : s.store.slots = x :: rest) (plan : s.out.plan = none) :
    s.handOn = (s.out.buffer.getD off Pair.zero, { s with
      out := { s.out with cursor := cursorAfter off }
      gain := s.cutGain x off }) := by
  simp only [State.handOn, moving, if_true, cursor, State.requestCut_noPlan held plan, plan]

/-- A fade has just completed where g is 0 in a fading state while the cursor moves (R122, R124, R168). -/
theorem State.completionDue_iff {s : State} (moving : s.moving = true) :
    s.completionDue = true ↔ s.out.play ≠ .playing ∧ s.gain.fade = 0 := by
  rw [State.moving_iff] at moving
  simp only [State.completionDue, State.beforeSave, Bool.and_eq_true, Bool.or_eq_true, beq_iff_eq]
  rcases moving with play | play | play | ⟨play, tray⟩ <;> simp [*]

/-- What follows the pair of a sample period (R113, R118, R122): a block that is done is consumed, but where a fade has
just completed. -/
theorem State.period_of_handOn {s t : State} {pair : Pair} (head : s.headDue = false) (handed : s.handOn = (pair, t)) :
    s.period = (if (t.sound pair).blockDone ∧ (t.sound pair).completionDue = false
      then (t.sound pair).boundary else t.sound pair).counted := by
  simp only [State.period, head, Bool.false_eq_true, if_false, handed]
  rfl

/-- Settles O53: the pair handed on, and the boundary by whether the block is done and a fade has just completed. -/
theorem blocksArePlayedPairByPair : Obligations.BlocksArePlayedPairByPair := by
  intro s x rest off moving plan cursor low held fc cut t u
  have moves := (State.moving_iff s).2 moving
  have head : s.headDue = false := by simp [State.headDue, cursor]
  have shape : t = { s with
      out := { s.out with cursor := cursorAfter off }
      gain := s.cutGain x off } := by rw [cursorAfter_eq]; rfl
  have handed : s.handOn = (s.out.buffer.getD off Pair.zero, t) := by
    rw [State.handOn_noPlan moves cursor held plan, shape]
  have period := State.period_of_handOn head handed
  let v := t.sound (s.out.buffer.getD off Pair.zero)
  have sent : v.counted = u := State.sound_counted (s := t) plan _
  have plan_v : v.out.plan = none := by rw [show v.out.plan = s.out.plan.map _ from rfl, plan]; rfl
  have moves_v : v.moving = true := (State.moving_iff v).2 moving
  have cursor_v : v.out.cursor = if off < 479 then .head (off + 1) else .finished := rfl
  have due : v.completionDue = true ↔ s.out.play ≠ .playing ∧ u.gain.fade = 0 := State.completionDue_iff moves_v
  refine ⟨fun inside => ?_, fun last fading silent => ?_, fun last loud => ?_⟩
  · have going : v.blockDone = false := by simp [State.blockDone, cursor_v, inside]
    rw [period, if_neg fun h => Bool.false_ne_true (going.symm.trans h.1), sent]
  · rw [period, if_neg fun h => Bool.false_ne_true (h.2.symm.trans (due.2 ⟨fading, silent⟩)), sent]
  · have done : v.blockDone = true := by
      rw [State.blockDone, moves_v, cursor_v, if_neg (by omega)]; rfl
    have still : v.completionDue = false := by
      rw [← Bool.not_eq_true, due, not_and_or, not_not]
      exact loud
    have consumed : v.blockConsumed x rest = (v.consumedHead x rest).boundaryTested := by
      simp only [State.blockConsumed, plan_v]
    rw [period, if_pos ⟨done, still⟩, State.boundary_eq v x rest held, consumed, ← State.boundaryTested_counted,
      ← State.consumedHead_counted, sent]

end Sys2Proof.Machine
end

section
/-! SUPPORT. The queue, and forward units: their checks, and the commands read from them (spec/02). -/

namespace Sys2Proof.Machine

/-! ### The queue -/

/-- Settles O1: by the form of the queue. -/
theorem stepRunsFrontCommand : Obligations.StepRunsFrontCommand :=
  ⟨fun _ _ _ => rfl, fun _ => rfl⟩

/-! ### The CRC-8 -/

theorem crc8_append (bytes : List Byte) (b : Byte) : crc8 (bytes ++ [b]) = crc8Byte (crc8 bytes) b :=
  List.foldl_append

/-! ### The form of a control frame -/

/-- A control frame around a body, with any byte where its CRC-8 belongs (R33). -/
def frameWithCheck (kind : Byte) (body : List Byte) (check : Byte) : List Byte :=
  kind :: byteOf body.length :: (body ++ [check])

theorem controlFrame_eq (kind : Byte) (body : List Byte) : controlFrame kind body
    = frameWithCheck kind body (crc8 (kind :: byteOf body.length :: body)) := rfl

/-- A unit that R27 refuses by its length byte or its length. -/
def badLength (unit : List Byte) : Prop :=
  unit.length < 2 ∨ 60 < (unit.getD 1 0x00#8).toNat ∨ unit.length ≠ (unit.getD 1 0x00#8).toNat + 3

theorem byteOf_toNat {n : Nat} (h : n < 256) : (byteOf n).toNat = n := by
  rw [byteOf, BitVec.toNat_ofNat]; exact Nat.mod_eq_of_lt h

/-- A unit of a fitting length is a frame around its body (R27, R33). -/
theorem exists_frameWithCheck {unit : List Byte} (fits : ¬ badLength unit) :
    ∃ kind body check, body.length ≤ 60 ∧ unit = frameWithCheck kind body check := by
  match unit, fits with
  | [], fits => exact absurd (.inl (by simp)) fits
  | [_], fits => exact absurd (.inl (by simp)) fits
  | kind :: n :: rest, fits =>
    simp only [badLength, List.length_cons, List.getD_cons_succ, List.getD_cons_zero, not_or, not_lt,
      Decidable.not_not] at fits
    obtain ⟨-, short, whole⟩ := fits
    obtain ⟨body, check, rfl⟩ := List.eq_nil_or_concat rest |>.resolve_left (by rintro rfl; simp at whole)
    have size : n.toNat = body.length := by simp at whole; omega
    refine ⟨kind, body, check, by omega, ?_⟩
    rw [frameWithCheck, ← size, byteOf, BitVec.ofNat_toNat, BitVec.setWidth_eq]; simp

section
variable (kind : Byte) {body : List Byte} (check : Byte)

theorem controlBody_frame : controlBody (frameWithCheck kind body check) = body := by
  simp [controlBody, frameWithCheck]

/-- A control frame of a fitting length is refused by its CRC-8 alone (R28, R30). -/
theorem controlCause_frame (short : body.length ≤ 60) : controlCause (frameWithCheck kind body check)
    = if check = crc8 (kind :: byteOf body.length :: body) then none else some .crc := by
  have size : (byteOf body.length).toNat = body.length := byteOf_toNat (by omega)
  have last : (kind :: byteOf body.length :: (body ++ [check])).getLast? = some check :=
    List.getLast?_concat (l := kind :: byteOf body.length :: body)
  have front : (kind :: byteOf body.length :: (body ++ [check])).dropLast = kind :: byteOf body.length :: body :=
    List.dropLast_concat (l₁ := kind :: byteOf body.length :: body)
  rw [frameWithCheck, controlCause, last, front, size, if_neg (by simp [Config.maxBody]; omega)]
  simp only [ne_eq, Option.some.injEq, ite_not]

end

theorem controlCause_badLength {unit : List Byte} (bad : badLength unit) : controlCause unit = some .length := by
  match unit, bad with
  | [], _ => rfl
  | [_], _ => rfl
  | kind :: n :: rest, bad =>
    simp only [badLength, List.length_cons, List.getD_cons_succ, List.getD_cons_zero] at bad
    exact if_pos (by simp only [Config.maxBody]; omega)

/-- A control frame that passes has a body of at most 60 bytes (R27). -/
theorem controlBody_short {unit : List Byte} (passes : controlCause unit = none) : (controlBody unit).length ≤ 60 := by
  have fits : ¬ badLength unit := fun bad => by rw [controlCause_badLength bad] at passes; cases passes
  obtain ⟨kind, body, check, short, rfl⟩ := exists_frameWithCheck fits
  rwa [controlBody_frame]

/-! ### The checks by kind -/

theorem unitCause_sector {unit : List Byte} (kind : unit.headD 0x00#8 = 0x01#8) :
    unitCause unit = if unit.length = 1934 then none else some .length := by
  cases unit with
  | nil => cases kind
  | cons b rest => obtain rfl : b = 0x01#8 := kind; rfl

theorem unitCause_seekDone {unit : List Byte} (kind : unit.headD 0x00#8 = 0x02#8) : unitCause unit
    = (controlCause unit).or (if (readSeekDone (controlBody unit)).isNone then some .body else none) := by
  cases unit with
  | nil => cases kind
  | cons b rest =>
    obtain rfl : b = 0x02#8 := kind
    show (match controlCause _ with | some c => some c | none => _) = _
    cases controlCause (0x02#8 :: rest) <;> rfl

theorem unitCause_commandOrTable {unit : List Byte} (kind : unit.headD 0x00#8 = 0x03#8 ∨ unit.headD 0x00#8 = 0x04#8) :
    unitCause unit = controlCause unit := by
  cases unit with
  | nil => rcases kind with kind | kind <;> cases kind
  | cons b rest =>
    rcases kind with kind | kind <;> obtain rfl := kind <;> rfl

theorem unitCause_otherKind {unit : List Byte} (sector : unit.headD 0x00#8 ≠ 0x01#8)
    (control : ¬ (unit.headD 0x00#8 = 0x02#8 ∨ unit.headD 0x00#8 = 0x03#8 ∨ unit.headD 0x00#8 = 0x04#8)) :
    unitCause unit = some .kind := by
  cases unit with
  | nil => rfl
  | cons b rest =>
    obtain ⟨seekDone, others⟩ := not_or.1 control
    exact (if_neg sector).trans ((if_neg seekDone).trans (if_neg others))

/-- A SEEK_DONE body is refused by its size, its tag byte or its status byte (R29). -/
theorem readSeekDone_isNone_iff (body : List Byte) : (readSeekDone body).isNone
    ↔ body.length ≠ 2 ∨ 15 < (body.getD 0 0x00#8).toNat ∨ 1 < (body.getD 1 0x00#8).toNat := by
  match body with
  | [] | [_] | _ :: _ :: _ :: _ => simp [readSeekDone]
  | [tag, status] =>
    have zero : status = 0x00#8 ↔ status.toNat = 0 := BitVec.toNat_inj.symm
    have one : status = 0x01#8 ↔ status.toNat = 1 := BitVec.toNat_inj.symm
    simp only [readSeekDone, zero, one, List.getD_cons_zero, List.getD_cons_succ, List.length_cons, List.length_nil]
    split_ifs <;> simp <;> omega

theorem frame_lengthByte (kind : Byte) {body : List Byte} (check : Byte) (short : body.length ≤ 60) :
    ((frameWithCheck kind body check).getD 1 0x00#8).toNat = body.length :=
  byteOf_toNat (by omega)

/-- A unit of a fitting length is refused by the byte at its end (R28). -/
theorem controlCause_of_fits {unit : List Byte} (fits : ¬ badLength unit) : controlCause unit
    = if unit.getD ((unit.getD 1 0x00#8).toNat + 2) 0x00#8
        ≠ crc8 (unit.take ((unit.getD 1 0x00#8).toNat + 2)) then some .crc else none := by
  obtain ⟨kind, body, check, short, rfl⟩ := exists_frameWithCheck fits
  rw [controlCause_frame kind check short, frame_lengthByte kind check short]
  have last : (frameWithCheck kind body check).getD (body.length + 2) 0x00#8 = check := by simp [frameWithCheck]
  have front : (frameWithCheck kind body check).take (body.length + 2) = kind :: byteOf body.length :: body := by
    simp [frameWithCheck]
  rw [last, front, ite_not]

/-- The test of a SEEK_DONE body, in the bytes of its unit (R29, R33). -/
theorem readSeekDone_of_fits {unit : List Byte} (fits : ¬ badLength unit) :
    (readSeekDone (controlBody unit)).isNone ↔ (unit.getD 1 0x00#8).toNat ≠ 2
      ∨ 15 < (unit.getD 2 0x00#8).toNat ∨ 1 < (unit.getD 3 0x00#8).toNat := by
  obtain ⟨kind, body, check, short, rfl⟩ := exists_frameWithCheck fits
  rw [controlBody_frame, readSeekDone_isNone_iff, frame_lengthByte kind check short]
  match body with
  | [_, _] => rfl
  | [] | [_] | _ :: _ :: _ :: _ => simp

/-- Settles O4: by kind, and a control frame by its length, its check byte and its body. -/
theorem forwardChecksRunInOrder : Obligations.ForwardChecksRunInOrder := by
  refine ⟨⟨rfl, crc8_append⟩, fun unit => ?_⟩
  intro kind n badLen badCheck badBody control
  have by_control (h : control) (stops : controlCause unit ≠ none) : unitCause unit = controlCause unit := by
    rcases h with seekDone | other
    · obtain ⟨cause, stop⟩ := Option.ne_none_iff_exists'.1 stops
      rw [unitCause_seekDone seekDone, stop, Option.some_or]
    · exact unitCause_commandOrTable other
  have by_crc (fits : ¬ badLen) (wrong : badCheck) : controlCause unit = some .crc :=
    (controlCause_of_fits fits).trans (if_pos wrong)
  have passes (fits : ¬ badLen) (right : ¬ badCheck) : controlCause unit = none :=
    (controlCause_of_fits fits).trans (if_neg right)
  refine ⟨?_, fun _ sector other => unitCause_otherKind sector other, fun sector size => ?_, fun sector size => ?_,
    fun h bad => ?_, fun h fits wrong => ?_, fun seekDone fits right bad => ?_, fun seekDone fits right good => ?_,
    fun other fits right => ?_⟩
  · rintro rfl; rfl
  · rw [unitCause_sector sector, if_neg size]
  · rw [unitCause_sector sector, if_pos size]
  · have stops : controlCause unit = some .length := controlCause_badLength bad
    rw [by_control h (by simp [stops]), stops]
  · have stops := by_crc fits wrong
    rw [by_control h (by simp [stops]), stops]
  · rw [unitCause_seekDone seekDone, passes fits right, if_pos ((readSeekDone_of_fits fits).2 bad), Option.none_or]
  · rw [unitCause_seekDone seekDone, passes fits right, if_neg (mt (readSeekDone_of_fits fits).1 good), Option.none_or]
  · rw [unitCause_commandOrTable other, passes fits right]

/-! ### A refused unit -/

theorem exec_refusedForwardUnit {unit : List Byte} {cause : CheckCause} (refused : unitCause unit = some cause)
    (s : State) : exec (.refusedForwardUnit unit) s = .next (s.post (.frameCheck (unit.headD 0x00#8) cause)) := by
  simp only [exec, execRefusedForwardUnit, refused, unitKind]

/-- A report the mask discards (R190). -/
theorem State.post_masked {s : State} {r : Report} (masked : r.level ≤ s.table.config.mask) (below : r.level ≠ 7) :
    s.post r = s := if_pos ⟨masked, below⟩

/-- A report above the mask that joins a queue with room (R190). -/
theorem State.post_joins {s : State} {r : Report} (above : s.table.config.mask < r.level) (other : r.isTray = false)
    (room : s.reports.length < 16) : s.post r = { s with reports := s.reports ++ [⟨r, false⟩] } := by
  rw [State.post, if_neg fun masked => Nat.not_le.2 above masked.1, placeReport, other, Bool.false_and,
    if_neg Bool.false_ne_true]
  exact congrArg (fun q => { s with reports := q }) (if_pos room)

/-- Settles O5: FRAME_CHECK is of level 1, so mask 0 keeps it and a higher mask discards it. -/
theorem refusedUnitIsReported : Obligations.RefusedUnitIsReported := by
  intro s unit cause refused
  rw [exec_refusedForwardUnit refused]
  refine ⟨rfl, fun kept room => ?_, fun masked => ?_⟩
  · rw [State.post_joins (by rw [kept]; exact Nat.one_pos) rfl room]
  · rw [State.post_masked (r := .frameCheck _ _) masked (by decide : (1 : Nat) ≠ 7)]

/-! ### The command a unit carries -/

section
variable {unit : List Byte}

theorem decodeUnit_refused {cause : CheckCause} (refused : unitCause unit = some cause) :
    decodeUnit unit = .refusedForwardUnit unit := by
  rw [decodeUnit, refused]; rfl

theorem decodeUnit_sector (kind : unit.headD 0x00#8 = 0x01#8) (size : unit.length = 1934) :
    decodeUnit unit = .sector (readSector unit) := by
  rw [decodeUnit, unitCause_sector kind, if_pos size, unitKind, kind]; rfl

theorem decodeUnit_seekDone {tag : Tag} {status : SeekStatus} (kind : unit.headD 0x00#8 = 0x02#8)
    (passes : controlCause unit = none) (read : readSeekDone (controlBody unit) = some (tag, status)) :
    decodeUnit unit = .seekDone tag status := by
  rw [decodeUnit, unitCause_seekDone kind, passes, read, unitKind, kind]; rfl

theorem decodeUnit_command (kind : unit.headD 0x00#8 = 0x03#8) (passes : controlCause unit = none) :
    decodeUnit unit = decodeCommand (controlBody unit) := by
  rw [decodeUnit, unitCause_commandOrTable (.inl kind), passes, unitKind, kind]; rfl

theorem decodeUnit_table (kind : unit.headD 0x00#8 = 0x04#8) (passes : controlCause unit = none) :
    decodeUnit unit = decodeTable (controlBody unit) := by
  rw [decodeUnit, unitCause_commandOrTable (.inr kind), passes, unitKind, kind]; rfl

end

theorem controlCause_controlFrame (kind : Byte) {body : List Byte} (short : body.length ≤ 60) :
    controlCause (controlFrame kind body) = none := by
  rw [controlFrame_eq, controlCause_frame kind _ short, if_pos rfl]

theorem controlBody_controlFrame (kind : Byte) (body : List Byte) : controlBody (controlFrame kind body) = body :=
  controlBody_frame kind _

theorem readSeekDone_code (tag : Tag) (status : SeekStatus) :
    readSeekDone [byteOf tag.toNat, byteOf (seekStatusCode status)] = some (tag, status) := by
  have size : (byteOf tag.toNat).toNat = tag.toNat := byteOf_toNat (by have := tag.isLt; omega)
  have back : (byteOf tag.toNat).setWidth 4 = tag := by
    apply BitVec.eq_of_toNat_eq
    rw [BitVec.toNat_setWidth, size, Nat.mod_eq_of_lt tag.isLt]
  rw [readSeekDone, if_neg (by rw [size]; have := tag.isLt; omega), back]
  cases status <;> rfl

theorem copyOf_three {a : BitVec 24} {bytes : List Byte} (h : beNat bytes = a.toNat) : copyOf bytes = a := by
  rw [copyOf, h, BitVec.ofNat_toNat, BitVec.setWidth_eq]

/-- A SECTOR unit read field by field (R33). -/
theorem readSector_eq {payload : List Byte} (size : payload.length = 1920)
    (a2 a1 a0 quality byte5 b2 b1 b0 c2 c1 c0 k1 k0 : Byte) :
    readSector (0x01#8 :: a2 :: a1 :: a0 :: quality :: byte5 :: (payload ++ [b2, b1, b0, c2, c1, c0, k1, k0]))
      = ⟨copyOf [a2, a1, a0], quality, payload, copyOf [b2, b1, b0], copyOf [c2, c1, c0],
          BitVec.ofNat 16 (beNat [k1, k0])⟩ := by
  have past (n : Nat) (far : 1920 ≤ n) : payload.drop n = [] := List.drop_eq_nil_of_le (by omega)
  simp [readSector, Config.areaBytes, size, List.drop_append, past]

/-- A SECTOR frame is read back, whatever its byte 5 (R33). -/
theorem decodeUnit_sectorFrame {f : SectorFrame} (byte5 : Byte) (size : f.payload.length = 1920) :
    decodeUnit (0x01#8 :: beBytes 3 f.copyA.toNat ++ [f.quality, byte5] ++ f.payload
      ++ beBytes 3 f.copyB.toNat ++ beBytes 3 f.copyC.toNat ++ beBytes 2 f.check.toNat) = .sector f := by
  obtain ⟨a2, a1, a0, bytesA, copyA⟩ := beBytes_three f.copyA
  obtain ⟨b2, b1, b0, bytesB, copyB⟩ := beBytes_three f.copyB
  obtain ⟨c2, c1, c0, bytesC, copyC⟩ := beBytes_three f.copyC
  obtain ⟨k1, k0, bytesK, check, -⟩ := beBytes_two f.check
  rw [bytesA, bytesB, bytesC, bytesK]
  simp only [List.cons_append, List.nil_append, List.append_assoc]
  rw [decodeUnit_sector rfl (by simp [size]), readSector_eq size, copyOf_three copyA, copyOf_three copyB,
    copyOf_three copyC, check, BitVec.ofNat_toNat, BitVec.setWidth_eq]

theorem decodeCommand_unknown {code : Byte} (params : List Byte) (unknown : code.toNat = 0 ∨ 13 < code.toNat) :
    decodeCommand (code :: params) = .unknownCommandCode (code :: params) := by
  simp only [decodeCommand]
  split
  case h_14 => rfl
  all_goals omega

theorem decodeTable_unknown {format : Byte} (record : List Byte)
    (unknown : format.toNat < 0x11 ∨ 0x14 < format.toNat) :
    decodeTable (format :: record) = .unknownTableFormat (format :: record) := by
  simp only [decodeTable]
  split
  case h_5 => rfl
  all_goals omega

theorem decodeCommand_queryTable {params : List Byte} (table : params.head? ≠ some 0x00#8) :
    decodeCommand (0x0C#8 :: params) = .queryTable params := if_neg table

/-- Settles O6: a frame passes its checks, and its body is what stands between the length byte and the CRC-8. -/
theorem forwardFramesReadBack : Obligations.ForwardFramesReadBack := by
  refine ⟨fun body short => ?_, fun body short => ?_, fun tag status => ?_, fun f byte5 => decodeUnit_sectorFrame byte5,
    fun params => ⟨rfl, rfl, rfl, rfl, rfl, rfl, rfl, rfl, rfl, rfl, rfl, rfl, decodeCommand_queryTable, rfl, rfl, rfl,
      rfl, rfl⟩, fun body unknown => ?_, fun body unknown => ?_⟩
  · rw [decodeUnit_command (by rfl) (controlCause_controlFrame _ short), controlBody_controlFrame]
  · rw [decodeUnit_table (by rfl) (controlCause_controlFrame _ short), controlBody_controlFrame]
  · refine decodeUnit_seekDone rfl (controlCause_controlFrame _ (Nat.le_add_left 2 58)) ?_
    rw [controlBody_controlFrame, readSeekDone_code]
  · cases body with
    | nil => rfl
    | cons code params =>
      obtain empty | large | zero := unknown
      · cases empty
      · exact decodeCommand_unknown params (.inr large)
      · exact decodeCommand_unknown params (.inl (congrArg BitVec.toNat zero))
  · cases body with
    | nil => rfl
    | cons format record =>
      exact decodeTable_unknown record (unknown.resolve_left (List.cons_ne_nil _ _))

/-! ### What is read is well formed -/

/-- The two rows of QUERY (R181). -/
theorem query_wellFormed {params : List Byte} (fits : fitsBody params) :
    (if params.head? = some 0x00#8 then Instr.queryStatus params.tail else .queryTable params).wellFormed = true := by
  split
  next status =>
    obtain ⟨rest, rfl⟩ := List.head?_eq_some_iff.1 status
    exact decide_eq_true fits
  next table => exact decide_eq_true ⟨fits, table⟩

/-- A body of at most 60 bytes is read as a command its row can carry (R180, R192). -/
theorem decodeCommand_wellFormed {body : List Byte} (short : body.length ≤ 60) :
    (decodeCommand body).wellFormed = true := by
  cases body with
  | nil => rfl
  | cons code params =>
    have fits : fitsBody params := short
    by_cases known : 1 ≤ code.toNat ∧ code.toNat ≤ 13
    · simp only [decodeCommand]
      obtain ⟨low, high⟩ := known
      generalize code.toNat = c at low high
      interval_cases c
      on_goal 12 => exact query_wellFormed fits -- code 0Ch, QUERY, alone has two rows
      all_goals exact decide_eq_true fits
    · rw [decodeCommand_unknown params (by omega)]
      exact decide_eq_true ⟨short, decide_eq_false known⟩

theorem decodeTable_wellFormed {body : List Byte} (short : body.length ≤ 60) :
    (decodeTable body).wellFormed = true := by
  cases body with
  | nil => rfl
  | cons format record =>
    have fits : fitsBody record := short
    by_cases known : 0x11 ≤ format.toNat ∧ format.toNat ≤ 0x14
    · simp only [decodeTable]
      obtain ⟨low, high⟩ := known
      generalize format.toNat = f at low high
      interval_cases f <;> exact decide_eq_true fits
    · rw [decodeTable_unknown record (by omega)]
      exact decide_eq_true ⟨short, decide_eq_false known⟩

theorem readSector_wellFormed {unit : List Byte} (size : unit.length = 1934) : (readSector unit).wellFormed := by
  simp [SectorFrame.wellFormed, readSector, Config.areaBytes, size]

/-- Settles O7: by the kind of the unit, the body of a control frame that passes being of at most 60 bytes. -/
theorem everyUnitReadsAsAWellFormedCommand : Obligations.EveryUnitReadsAsAWellFormedCommand := by
  intro unit
  cases refused : unitCause unit with
  | some cause =>
    rw [decodeUnit_refused refused]
    exact decide_eq_true (by rw [refusedUnit, refused]; exact Option.some_ne_none cause)
  | none =>
    by_cases sector : unit.headD 0x00#8 = 0x01#8
    · have size : unit.length = 1934 := by
        by_contra size
        rw [unitCause_sector sector, if_neg size] at refused
        cases refused
      rw [decodeUnit_sector sector size]
      exact decide_eq_true (readSector_wellFormed size)
    by_cases seekDone : unit.headD 0x00#8 = 0x02#8
    · rw [unitCause_seekDone seekDone, Option.or_eq_none_iff] at refused
      obtain ⟨passes, body⟩ := refused
      cases read : readSeekDone (controlBody unit) with
      | none => rw [read] at body; cases body
      | some answer => rw [decodeUnit_seekDone seekDone passes read]; rfl
    by_cases command : unit.headD 0x00#8 = 0x03#8
    · rw [unitCause_commandOrTable (.inl command)] at refused
      rw [decodeUnit_command command refused]
      exact decodeCommand_wellFormed (controlBody_short refused)
    by_cases table : unit.headD 0x00#8 = 0x04#8
    · rw [unitCause_commandOrTable (.inr table)] at refused
      rw [decodeUnit_table table refused]
      exact decodeTable_wellFormed (controlBody_short refused)
    · have control := not_or.2 ⟨seekDone, not_or.2 ⟨command, table⟩⟩
      rw [unitCause_otherKind sector control] at refused
      cases refused

end Sys2Proof.Machine
end

section
/-! SUPPORT. Arrivals voted and checked, and the transmitter's choice (spec/02). -/

namespace Sys2Proof.Machine

/-! ### The quality of an arrival -/

/-- CLEAN is code 00h with the check passed (R34, R35). -/
theorem decodeQuality_clean_iff (code : Byte) (passed : Bool) :
    decodeQuality code passed = .clean ↔ passed = true ∧ code = 0x00#8 := by
  rw [decodeQuality]; split_ifs <;> simp_all

/-- REPAIRED is code 01h with the check passed (R34, R35). -/
theorem decodeQuality_repaired_iff (code : Byte) (passed : Bool) :
    decodeQuality code passed = .repaired ↔ passed = true ∧ code = 0x01#8 := by
  rw [decodeQuality]; split_ifs <;> simp_all

theorem decodeQuality_ne_missing (code : Byte) (passed : Bool) : decodeQuality code passed ≠ .missing := by
  rw [decodeQuality]; split_ifs <;> simp

/-! ### The address vote -/

theorem voteAddress_clean_iff (a b c : BitVec 24) (n : Nat) :
    voteAddress a b c = some (n, .clean) ↔ a.toNat = n ∧ b.toNat = n ∧ c.toNat = n := by
  rw [voteAddress]
  split_ifs with same
  · obtain ⟨rfl, rfl⟩ := same
    simp
  all_goals
    refine iff_of_false (by simp) fun ⟨atA, atB, atC⟩ => same ⟨?_, ?_⟩
    · exact BitVec.eq_of_toNat_eq (atA.trans atB.symm)
    · exact BitVec.eq_of_toNat_eq (atB.trans atC.symm)

theorem voteAddress_noisy_iff (a b c : BitVec 24) (n : Nat) :
    voteAddress a b c = some (n, .noisy) ↔ [a, b, c].countP (fun x => x.toNat = n) = 2 := by
  simp only [voteAddress, ← BitVec.toNat_inj, List.countP_cons, List.countP_nil, decide_eq_true_eq]
  split_ifs <;> simp <;> omega

theorem voteAddress_none_iff (a b c : BitVec 24) : voteAddress a b c = none ↔ a ≠ b ∧ a ≠ c ∧ b ≠ c := by
  simp only [voteAddress, ne_eq, ← BitVec.toNat_inj]
  split_ifs <;> simp [-not_and] <;> omega

/-! ### An arrival that is only heard -/

theorem State.arrive_ignored {s : State} (a : Arrival)
    (rest : s.fill.state = .stopped ∨ s.fill.state = .seeking ∨ s.fill.state = .halted) : s.arrive a = s := by
  rcases rest with state | state | state <;>
    simp only [State.arrive, state] <;> exact State.evaluateRepair_of_ne (by simp [state]) (by simp [state])

/-- Settles O38: the quality by its code and check, the vote by which copies agree. -/
theorem sectorsAreVotedAndChecked : Obligations.SectorsAreVotedAndChecked := by
  refine ⟨fun f => ⟨?_, ?_, decodeQuality_ne_missing _ _, rfl, voteAddress_clean_iff _ _ _,
    voteAddress_noisy_iff _ _ _, voteAddress_none_iff _ _ _⟩, fun s f size rest => ?_⟩
  · rw [← beq_iff_eq (a := crc16 f.payload)]; exact decodeQuality_clean_iff _ _
  · rw [← beq_iff_eq (a := crc16 f.payload)]; exact decodeQuality_repaired_iff _ _
  · rw [exec_sector size, State.arrive_ignored (s := s.heard f) _ rest]

/-! ### The transmitter -/

theorem exec_seekSend (s : State) : exec .seekSend s = execSeekSend s := rfl
theorem exec_readPauseSend (s : State) : exec .readPauseSend s = execReadPauseSend s := rfl
theorem exec_reportSend (s : State) : exec .reportSend s = execReportSend s := rfl

/-- A SEEK waits and the transmitter is free (R42). -/
theorem State.seekDue_iff (s : State) : s.seekDue = true ↔ s.link.sending = none ∧ s.link.seek.isSome = true := by
  simp [State.seekDue]

theorem State.pauseDue_iff (s : State) : s.pauseDue = true
    ↔ s.link.sending = none ∧ s.link.seek = none ∧ s.link.pause = true := by
  simp [State.pauseDue, and_assoc]

theorem State.reportDue_iff (s : State) : s.reportDue = true
    ↔ s.link.sending = none ∧ s.link.seek = none ∧ s.link.pause = false ∧ s.reports ≠ [] := by
  simp [State.reportDue, and_assoc]

/-- A tag as a byte (R33). -/
theorem byteOf_tag (tag : Tag) : byteOf tag.toNat = tag.setWidth 8 := BitVec.ofNat_toNat 8 tag

/-- The bytes of a SEEK frame (R33). -/
theorem SeekRequest.frame_eq (r : SeekRequest) : r.frame
    = controlFrame 0x81#8 ([byteOf r.tag.toNat] ++ beBytes 3 r.target ++ [byteOf r.reason.code]) := by
  rw [SeekRequest.frame, byteOf_tag]
  rfl

/-- Settles O48: each frame by the test that it is its turn. -/
theorem transmitterSendsInOrder : Obligations.TransmitterSendsInOrder := by
  intro s
  refine ⟨fun free => ⟨fun r waits => ?_, fun no_seek asked => ?_, fun e rest no_seek no_pause queue => ?_,
    fun no_seek => ?_, fun not_turn => ?_, fun not_turn => ?_⟩, rfl⟩
  · have due : s.seekDue = true := (State.seekDue_iff s).2 ⟨free, by rw [waits]; rfl⟩
    simp only [exec_seekSend, execSeekSend, waits, due, if_true, SeekRequest.frame_eq]
    cases r.reason <;> rfl
  · have due : s.pauseDue = true := (State.pauseDue_iff s).2 ⟨free, no_seek, asked⟩
    rw [exec_readPauseSend, execReadPauseSend, if_pos due]
    rfl
  · have due : s.reportDue = true := (State.reportDue_iff s).2 ⟨free, no_seek, no_pause, by rw [queue]; simp⟩
    simp only [exec_reportSend, execReportSend, queue, due, if_true]
  · simp only [exec_seekSend, execSeekSend, no_seek]
  · have idle : ¬ s.pauseDue = true := by
      rw [State.pauseDue_iff]
      rintro ⟨-, no_seek, asked⟩
      rcases not_turn with h | h <;> simp_all
    rw [exec_readPauseSend, execReadPauseSend, if_neg idle]
  · have idle : ¬ s.reportDue = true := by
      rw [State.reportDue_iff]
      rintro ⟨-, no_seek, no_pause, queue⟩
      rcases not_turn with h | h | h <;> simp_all
    rw [exec_reportSend, execReportSend.eq_def]
    split
    · rw [if_neg idle]
    · rfl

/-! ### Reports on the link -/

theorem beBytes_two_eq (n : Nat) : beBytes 2 n = [BitVec.ofNat 8 (n / 256), BitVec.ofNat 8 n] := by
  simp [beBytes]

theorem beBytes_three_eq (n : Nat) : beBytes 3 n
    = [BitVec.ofNat 8 (n / 65536), BitVec.ofNat 8 (n / 256), BitVec.ofNat 8 n] := by
  simp [beBytes]

theorem beBytes_four_eq (n : Nat) : beBytes 4 n
    = [BitVec.ofNat 8 (n / 16777216), BitVec.ofNat 8 (n / 65536), BitVec.ofNat 8 (n / 256), BitVec.ofNat 8 n] := by
  simp [beBytes]

theorem controlFrame_length (kind : Byte) (body : List Byte) : (controlFrame kind body).length = body.length + 3 := by
  simp [controlFrame]

theorem controlFrame_take (kind : Byte) (body : List Byte) :
    (controlFrame kind body).take (body.length + 2) = kind :: byteOf body.length :: body := by
  simp [controlFrame]

theorem controlFrame_getLast (kind : Byte) (body : List Byte) :
    (controlFrame kind body).getLast? = some (crc8 (kind :: byteOf body.length :: body)) :=
  List.getLast?_concat

/-- Settles O15: the envelope once, and the fields kind by kind, each number as its bytes, each code as listed. -/
theorem reportFramesHaveTheirLayout : Obligations.ReportFramesHaveTheirLayout := by
  refine ⟨fun _ _ => rfl,
    fun kind body => ⟨controlFrame_length kind body, controlFrame_take kind body, controlFrame_getLast kind body⟩,
    ⟨rfl, rfl⟩, fun _ => rfl, ?_, fun i e p c r => ⟨rfl, rfl, rfl, rfl⟩⟩
  intro one two three four flag play fill tray plan place r edges
  have playByte (p : PlayState) : byteOf p.code = play p := by cases p <;> rfl
  have fillByte (f : FillState) : byteOf f.code = fill f := by cases f <;> rfl
  have trayByte (t : TrayState) : byteOf t.code = tray t := by cases t <;> rfl
  have planByte (k : PlanKind) : byteOf k.code = plan k := by cases k <;> rfl
  have placeBytes (p : Position) : p.bytes = place p := by rw [Position.bytes, beBytes_three_eq, beBytes_two_eq]; rfl
  cases r with
  | result source code outcome present => cases source <;> cases outcome <;> cases present <;> rfl
  | status f =>
    cases print : f.fingerprint <;>
      simp only [Report.fields, StatusReply.bytes, playByte, fillByte, trayByte, beBytes_two_eq, beBytes_three_eq,
        beBytes_four_eq, print] <;> rfl
  | tableReply format index record => cases record <;> rfl
  | frameCheck kind cause => cases cause <;> rfl
  | lateAnswer tag status =>
    rw [Report.fields, ← byteOf_tag]
    cases status <;> rfl
  | skipDetected arrived expected segment vote =>
    rw [Report.fields, beBytes_three_eq, beBytes_three_eq]
    cases vote <;> rfl
  | repaired address segment quality attempts distance =>
    rw [Report.fields, beBytes_three_eq, beBytes_two_eq]
    cases quality <;> cases attempts <;> rfl
  | concealed kind length address segment first fallback =>
    rw [Report.fields, planByte, beBytes_two_eq, beBytes_three_eq]
    cases first <;> rfl
  | starved segment address f => rw [Report.fields, fillByte, beBytes_three_eq]; rfl
  | stopReached segment address => rw [Report.fields, beBytes_three_eq]; rfl
  | endOfList segment address => rw [Report.fields, beBytes_three_eq]; rfl
  | position cause pos p =>
    rw [Report.fields, placeBytes, playByte]
    cases cause <;> rfl
  | segmentGivenUp segment first following =>
    rw [Report.fields, beBytes_three_eq]
    cases following <;> rfl
  | resume outcome f pos =>
    rw [Report.fields, placeBytes, beBytes_four_eq]
    cases outcome <;> cases pos <;> rfl
  | tray line state =>
    rw [Report.fields, trayByte]
    cases line <;> rfl
  | halted pos kind => rw [Report.fields, placeBytes, planByte]; rfl

end Sys2Proof.Machine
end

section
/-! SUPPORT. A blocked front, the crossing of a segment's end, and arrivals out of place (spec/03, spec/04). -/

namespace Sys2Proof.Machine

/-- The REPAIR evaluation is for TRACKING and PAUSED_FULL alone (R69). -/
theorem State.evaluateRepair_idle {s : State} {fill : FillState} (state : s.fill.state = fill)
    (idle : fill ≠ .tracking ∧ fill ≠ .pausedFull) : s.evaluateRepair = s :=
  State.evaluateRepair_of_ne (state ▸ idle.1) (state ▸ idle.2)

/-! ### A blocked front -/

/-- PAUSED_FULL entered by a blocked front: no REFILL follows (R77, R86). -/
theorem State.enterPausedFull_blocked {s : State}
    (blocked : (∃ x ∈ s.store.slots, x.address = s.track.expected) ∨ s.store.refill < s.store.slots.length) :
    s.enterPausedFull = (s.outOfRecovery .pausedFull).pauseAsked := by
  have notDue : ¬ (s.outOfRecovery .pausedFull).pauseAsked.refillTest = true := by
    rw [State.refillTest_iff]
    rintro ⟨-, low, free⟩
    rcases blocked with held | above
    · exact free held
    · exact absurd low (Nat.not_le.2 above)
  exact if_neg notDue

/-- Settles O40: the store refuses the block at E, and PAUSED_FULL is entered without a REFILL or stays. -/
theorem blockedFrontPausesTheRead : Obligations.BlockedFrontPausesTheRead := by
  intro s f v size address held blocked
  have refused : ¬ (s.heard f).store.takes (s.heard f).track.expected = true := by
    rw [Store.takes_iff]
    rintro ⟨room, new⟩
    rcases blocked with ⟨x, mem, at_E⟩ | ⟨full, -⟩
    · exact new x mem at_E
    · exact absurd room (Nat.not_lt.2 full)
  have pauses : (s.heard f).enterPausedFull = ((s.heard f).outOfRecovery .pausedFull).pauseAsked :=
    State.enterPausedFull_blocked (blocked.imp_right And.right)
  rw [exec_sector size]
  refine ⟨?_, fun paused => ?_⟩
  · rintro (tracking | relocking)
    · rw [State.arrive_atE_tracking (s := s.heard f) address (.inl tracking), State.appendAtE, if_neg refused,
        if_pos (show (s.heard f).fill.state = .tracking from tracking), pauses]
    · rw [State.arrive_atE_relocking (s := s.heard f) address relocking, State.relockAtE.eq_def, if_neg refused, pauses]
  · have other : (s.heard f).fill.state ≠ .tracking := by rw [State.heard_fill, paused]; decide
    rw [State.arrive_atE_tracking (s := s.heard f) address (.inr paused), State.appendAtE, if_neg refused, if_neg other]

/-! ### The choice of a crossing (R53) -/

theorem Tables.crossing_stop {t : Tables} {seg : SegmentIndex} (stop : t.stopIndex = some seg) :
    t.crossing seg = .ends := if_pos stop

theorem Tables.crossing_next {t : Tables} {seg n : SegmentIndex} (going : t.stopIndex ≠ some seg)
    (next : t.candidate seg = some n) : t.crossing seg = .goes n false := by
  rw [Tables.crossing, if_neg going, next]

/-- At the end of the list the repeat flag or the cue flag leads to a VALID entry 0, the repeat flag first. -/
theorem Tables.crossing_listEnd {t : Tables} {seg : SegmentIndex} (going : t.stopIndex ≠ some seg)
    (last : t.candidate seg = none) : t.crossing seg
      = if (t.repeatFlag || t.cueFlag) && (t.playList[(0 : SegmentIndex)]).valid then .goes 0 (!t.repeatFlag)
        else .ends := by
  rw [Tables.crossing, if_neg going, last]
  rfl

/-! ### Causes raised -/

/-- With no recovery in progress a cause has its seek issued (R66). -/
theorem State.raiseCause_free {s : State} (reason : Reason) (free : s.fill.state.recovering = false) :
    s.raiseCause reason none = s.seekIssued reason none 0 := by
  rw [State.raiseCause, if_neg (by rw [free]; decide), State.issueNew_none]

/-- Over a recovery a cause has its seek issued where its priority is higher, and is discarded otherwise (R66, R67). -/
theorem State.raiseCause_over {s : State} {cause : ActiveCause} (reason : Reason)
    (recovering : s.fill.state.recovering = true) (active : s.fill.active = some cause) : s.raiseCause reason none
      = if reason.priority < cause.reason.priority then s.seekIssued reason none 0 else s := by
  simp only [State.raiseCause, recovering, active, if_true, State.issueNew_none]

/-! ### E moved on from a segment's end (R47, R53 to R55) -/

section
variable {s : State} {n : SegmentIndex} {usesCue : Bool}
  (at_end : s.track.expected = s.table.playList[s.track.segment].last)
include at_end

theorem State.moveOn_ends (ends : s.table.crossing s.track.segment = .ends) : s.moveOn = s.enterEnd := by
  rw [State.moveOn_of_eq s at_end, State.crossByAppend, ends]

variable (goes : s.table.crossing s.track.segment = .goes n usesCue)
include goes

/-- A crossing without a seek: the start follows on, or the fill is paused. -/
theorem State.moveOn_crosses (quiet : s.table.playList[n].first = s.track.expected + 1 ∨ s.fill.state = .pausedFull) :
    s.moveOn = s.crossedTo n usesCue := by
  rw [at_end] at quiet
  simp only [State.moveOn_of_eq s at_end, State.crossByAppend, goes]
  exact if_pos quiet

/-- A crossing to a start that does not follow on raises the cause SEGMENT. -/
theorem State.moveOn_leaps (apart : ¬ s.table.playList[n].first = s.track.expected + 1)
    {fill : FillState} (state : s.fill.state = fill) (live : fill ≠ .pausedFull) :
    s.moveOn = (s.crossedTo n usesCue).raiseCause .segment none := by
  rw [at_end] at apart
  simp only [State.moveOn_of_eq s at_end, State.crossByAppend, goes]
  exact if_neg (not_or.2 ⟨apart, state ▸ live⟩)

end

/-! ### An append by fill state (R47, R75, R76, R85) -/

section
variable {s : State} {a : Arrival} {v : Vote}
  (address : a.address = some (s.track.expected, v)) (takes : s.store.takes s.track.expected = true)
include address takes

theorem State.arrive_appends_below (tracking : s.fill.state = .tracking)
    (below : s.store.slots.length + 1 < s.store.highWater) :
    s.arrive a = (s.appended a.quality a.payload).moveOn.evaluateRepair := by
  rw [State.arrive_atE_tracking address (.inl tracking), State.appendAtE_takes s a takes, State.pausedAtHighWater,
    if_neg fun full => absurd below (Nat.not_lt.2 full.2)]

/-- At high-water PAUSED_FULL is entered before the block is appended (log 11). -/
theorem State.arrive_appends_full (tracking : s.fill.state = .tracking)
    (full : s.store.highWater ≤ s.store.slots.length + 1) : s.arrive a
      = ((s.outOfRecovery .pausedFull).pauseAsked.appended a.quality a.payload).moveOn.evaluateRepair := by
  rw [State.arrive_atE_tracking address (.inl tracking), State.appendAtE_takes s a takes, State.pausedAtHighWater,
    if_pos ⟨tracking, full⟩]

theorem State.arrive_appends_paused (paused : s.fill.state = .pausedFull) :
    s.arrive a = (s.appended a.quality a.payload).moveOn.evaluateRepair := by
  rw [State.arrive_atE_tracking address (.inr paused), State.appendAtE_takes s a takes, State.pausedAtHighWater,
    if_neg fun high => by rw [paused] at high; cases high.1]

theorem State.arrive_appends_clean (relocking : s.fill.state = .relocking) (clean : v = .clean) : s.arrive a
    = ((s.outOfRecovery .tracking).appended a.quality a.payload).moveOn.highWaterTest.evaluateRepair := by
  rw [State.arrive_atE_relocking address relocking, clean, State.relockAtE_clean s a takes]

theorem State.arrive_appends_noisy (relocking : s.fill.state = .relocking) (noisy : v = .noisy) :
    s.arrive a = (s.appended a.quality a.payload).moveOn.evaluateRepair := by
  rw [State.arrive_atE_relocking address relocking, noisy, State.relockAtE_noisy s a takes]

end

/-! ### An append that ends the fill (R53, R87) -/

theorem State.enterEnd_evaluateRepair (s : State) : s.enterEnd.evaluateRepair = s.enterEnd := by
  refine State.evaluateRepair_idle (fill := .ended) ?_ (by decide)
  rw [State.enterEnd]
  split <;> rfl

theorem State.enterEnd_live {s : State} {fill : FillState} (state : s.fill.state = fill) (live : fill ≠ .pausedFull) :
    s.enterEnd = (s.outOfRecovery .ended).pauseAsked :=
  State.enterEnd_of_ne s (state ▸ live)

theorem State.highWaterTest_other {s : State} {fill : FillState} (state : s.fill.state = fill)
    (other : fill ≠ .tracking) : s.highWaterTest = s :=
  if_neg fun high => other (state.symm.trans high.1)

section
variable {s : State} {a : Arrival} {v : Vote}
  (address : a.address = some (s.track.expected, v)) (takes : s.store.takes s.track.expected = true)
  (at_end : s.track.expected = s.table.playList[s.track.segment].last)
include address takes at_end

section
variable (ends : s.table.crossing s.track.segment = .ends)
include ends

theorem State.arrive_ends_tracking (tracking : s.fill.state = .tracking) :
    s.arrive a = ((s.appended a.quality a.payload).outOfRecovery .ended).pauseAsked := by
  rcases Nat.lt_or_ge (s.store.slots.length + 1) s.store.highWater with below | full
  · rw [State.arrive_appends_below address takes tracking below,
      State.moveOn_ends (s := s.appended a.quality a.payload) at_end ends, State.enterEnd_evaluateRepair]
    exact State.enterEnd_live tracking (by decide)
  · let p := (s.outOfRecovery .pausedFull).pauseAsked.appended a.quality a.payload
    rw [State.arrive_appends_full address takes tracking full, State.moveOn_ends (s := p) at_end ends,
      State.enterEnd_evaluateRepair, State.enterEnd_of_pausedFull p rfl]
    rfl

theorem State.arrive_ends_relocking (relocking : s.fill.state = .relocking) :
    s.arrive a = ((s.appended a.quality a.payload).outOfRecovery .ended).pauseAsked := by
  cases vote : v with
  | clean =>
    let t := (s.outOfRecovery .tracking).appended a.quality a.payload
    rw [State.arrive_appends_clean address takes relocking vote, State.moveOn_ends (s := t) at_end ends,
      State.enterEnd_live (s := t) (fill := .tracking) rfl (by decide),
      State.highWaterTest_other (fill := .ended) rfl (by decide)]
    exact State.evaluateRepair_idle (fill := .ended) rfl (by decide)
  | noisy =>
    rw [State.arrive_appends_noisy address takes relocking vote,
      State.moveOn_ends (s := s.appended a.quality a.payload) at_end ends, State.enterEnd_evaluateRepair]
    exact State.enterEnd_live relocking (by decide)

theorem State.arrive_ends_paused (paused : s.fill.state = .pausedFull) :
    s.arrive a = (s.appended a.quality a.payload).outOfRecovery .ended := by
  rw [State.arrive_appends_paused address takes paused,
    State.moveOn_ends (s := s.appended a.quality a.payload) at_end ends, State.enterEnd_evaluateRepair]
  exact State.enterEnd_of_pausedFull _ paused

end

/-! ### An append that crosses to a segment (R53 to R55, R66, R76, R85) -/

variable {n : SegmentIndex} {usesCue : Bool} (goes : s.table.crossing s.track.segment = .goes n usesCue)
include goes

theorem State.arrive_crosses_below (tracking : s.fill.state = .tracking)
    (below : s.store.slots.length + 1 < s.store.highWater) :
    let m := (s.appended a.quality a.payload).crossedTo n usesCue
    let follows := s.table.playList[n].first = s.track.expected + 1
    (follows → s.arrive a = m.evaluateRepair) ∧ (¬ follows → s.arrive a = m.seekIssued .segment none 0) := by
  intro m follows
  rw [State.arrive_appends_below address takes tracking below]
  refine ⟨fun next => ?_, fun apart => ?_⟩
  · rw [State.moveOn_crosses (s := s.appended a.quality a.payload) at_end goes (.inl next)]
  · have free : m.fill.state.recovering = false := by
      show s.fill.state.recovering = _; rw [tracking]; rfl
    rw [State.moveOn_leaps (s := s.appended a.quality a.payload) at_end goes apart tracking (by decide),
      State.raiseCause_free _ free, State.evaluateRepair_idle (fill := .seeking) rfl (by decide)]

theorem State.arrive_crosses_full (tracking : s.fill.state = .tracking)
    (full : s.store.highWater ≤ s.store.slots.length + 1) :
    let m := (s.appended a.quality a.payload).crossedTo n usesCue
    s.arrive a = (m.outOfRecovery .pausedFull).pauseAsked.evaluateRepair := by
  intro m
  rw [State.arrive_appends_full address takes tracking full,
    State.moveOn_crosses (s := (s.outOfRecovery .pausedFull).pauseAsked.appended a.quality a.payload) at_end goes
      (.inr rfl)]
  rfl

theorem State.arrive_crosses_paused (paused : s.fill.state = .pausedFull) :
    s.arrive a = ((s.appended a.quality a.payload).crossedTo n usesCue).evaluateRepair := by
  rw [State.arrive_appends_paused address takes paused,
    State.moveOn_crosses (s := s.appended a.quality a.payload) at_end goes (.inr paused)]

/-- A clean relock is complete before the crossing, and the high-water test comes after it (R76, log 11). -/
theorem State.arrive_crosses_clean (relocking : s.fill.state = .relocking) (clean : v = .clean) :
    let m := (s.appended a.quality a.payload).crossedTo n usesCue
    let follows := s.table.playList[n].first = s.track.expected + 1
    (¬ follows → s.arrive a = m.seekIssued .segment none 0)
    ∧ (follows → s.store.slots.length + 1 < s.store.highWater →
      s.arrive a = (m.outOfRecovery .tracking).evaluateRepair)
    ∧ (follows → s.store.highWater ≤ s.store.slots.length + 1 ∧ s.store.refill < s.store.highWater →
      s.arrive a = (m.outOfRecovery .pausedFull).pauseAsked.evaluateRepair) := by
  intro m follows
  let t := (s.outOfRecovery .tracking).appended a.quality a.payload
  have count : (m.outOfRecovery .tracking).store.slots.length = s.store.slots.length + 1 :=
    State.appended_length _ _ _
  have crossed (next : follows) : t.moveOn = m.outOfRecovery .tracking :=
    State.moveOn_crosses (s := t) at_end goes (.inl next)
  rw [State.arrive_appends_clean address takes relocking clean]
  refine ⟨fun apart => ?_, fun next below => ?_, fun next full => ?_⟩
  · rw [State.moveOn_leaps (s := t) at_end goes apart (fill := .tracking) rfl (by decide), State.raiseCause_free _ rfl,
      State.highWaterTest_other (fill := .seeking) rfl (by decide),
      State.evaluateRepair_idle (fill := .seeking) rfl (by decide)]
    rfl
  · rw [crossed next, State.highWaterTest_below (by rw [count]; exact Nat.not_le.2 below)]
  · obtain ⟨high, marks⟩ := full
    rw [crossed next, State.highWaterTest_full (s := m.outOfRecovery .tracking) rfl (by rw [count]; exact high) marks]
    rfl

/-- A noisy vote leaves the recovery in progress: SEGMENT is issued over a cause of lower priority alone (R66, R75). -/
theorem State.arrive_crosses_noisy (relocking : s.fill.state = .relocking) (noisy : v = .noisy) {cause : ActiveCause}
    (active : s.fill.active = some cause) :
    let m := (s.appended a.quality a.payload).crossedTo n usesCue
    let follows := s.table.playList[n].first = s.track.expected + 1
    (follows ∨ cause.reason.priority ≤ 1 → s.arrive a = m)
    ∧ (¬ follows → 1 < cause.reason.priority → s.arrive a = m.seekIssued .segment none 0) := by
  intro m follows
  have state : m.fill.state = .relocking := relocking
  have leaps (apart : ¬ follows) : (s.appended a.quality a.payload).moveOn
        = if Reason.segment.priority < cause.reason.priority then m.seekIssued .segment none 0 else m :=
    (State.moveOn_leaps (s := s.appended a.quality a.payload) at_end goes apart relocking (by decide)).trans
      (State.raiseCause_over (s := m) _ (by rw [state]; rfl) active)
  rw [State.arrive_appends_noisy address takes relocking noisy]
  refine ⟨fun quiet => ?_, fun apart lower => ?_⟩
  · have crossed : (s.appended a.quality a.payload).moveOn = m := by
      by_cases next : follows
      · exact State.moveOn_crosses (s := s.appended a.quality a.payload) at_end goes (.inl next)
      · exact (leaps next).trans (if_neg (Nat.not_lt.2 (quiet.resolve_left next)))
    rw [crossed, State.evaluateRepair_idle state (by decide)]
  · rw [(leaps apart).trans (if_pos lower), State.evaluateRepair_idle (fill := .seeking) rfl (by decide)]

end

/-- The causes of the priority PROGRAM (R65). -/
theorem Reason.priority_le_one_iff {reason : Reason} :
    reason.priority ≤ 1 ↔ reason = .start ∨ reason = .segment ∨ reason = .resume := by
  cases reason <;> decide

/-- Settles O41: the choice by the candidate and the flags, the append by the crossing and the fill state. -/
theorem segmentEndsAreCrossed : Obligations.SegmentEndsAreCrossed := by
  refine ⟨fun t seg => ⟨Tables.crossing_stop, fun going => ⟨fun n succ unended valid => ?_, fun last => ?_⟩⟩, ?_⟩
  · exact Tables.crossing_next going (Tables.candidate_eq_some t seg n succ unended valid)
  · rw [Tables.crossing_listEnd going (Tables.candidate_eq_none t seg last)]
    refine ⟨fun repeats valid => ?_, fun plain cue valid => ?_, fun plain uncued => ?_, fun invalid => ?_⟩
    · rw [repeats, valid]; rfl
    · rw [plain, cue, valid]; rfl
    · rw [plain, uncued]; rfl
    · rw [invalid, Bool.and_false]; rfl
  · intro s f v size address room new at_end a full
    have takes : (s.heard f).store.takes (s.heard f).track.expected = true := (Store.takes_iff _ _).2 ⟨room, new⟩
    rw [exec_sector size]
    refine ⟨fun ends => ⟨?_, fun paused => ?_⟩, fun n usesCue goes => ?_⟩
    · rintro (⟨tracking, -⟩ | relocking)
      · exact congrArg _ (State.arrive_ends_tracking (s := s.heard f) address takes at_end ends tracking)
      · exact congrArg _ (State.arrive_ends_relocking (s := s.heard f) address takes at_end ends relocking)
    · exact congrArg _ (State.arrive_ends_paused (s := s.heard f) address takes at_end ends paused)
    · intro m follows
      refine ⟨fun tracking below => ?_, fun tracking high => ?_, fun relocking clean => ?_, fun paused => ?_,
        fun relocking noisy cause active => ⟨fun quiet => ?_, fun apart lower => ?_⟩⟩
      · have crosses := State.arrive_crosses_below (s := s.heard f) address takes at_end goes tracking below
        exact crosses.imp (congrArg _ <| · ·) (congrArg _ <| · ·)
      · exact congrArg _ (State.arrive_crosses_full (s := s.heard f) address takes at_end goes tracking high.1)
      · obtain ⟨leaps, stays, pauses⟩ :=
          State.arrive_crosses_clean (s := s.heard f) address takes at_end goes relocking clean
        exact ⟨fun apart => congrArg _ (leaps apart), fun next below => congrArg _ (stays next below),
          fun next high => congrArg _ (pauses next high)⟩
      · exact congrArg _ (State.arrive_crosses_paused (s := s.heard f) address takes at_end goes paused)
      · obtain ⟨stays, -⟩ :=
          State.arrive_crosses_noisy (s := s.heard f) address takes at_end goes relocking noisy active
        exact congrArg _ (stays (quiet.imp_right Reason.priority_le_one_iff.2))
      · obtain ⟨-, leaps⟩ :=
          State.arrive_crosses_noisy (s := s.heard f) address takes at_end goes relocking noisy active
        refine congrArg _ (leaps apart ?_)
        rcases lower with reason | reason | reason <;> rw [reason] <;> decide

/-! ### Arrivals out of place -/

/-- An address outside the window that begins at `low` and ends at E, or no address (R46, R74). -/
def Arrival.OutOfPlace (a : Arrival) (low expected : Addr) : Prop :=
  ∀ (addr : Addr) (v : Vote), a.address = some (addr, v) → expected < addr ∨ (addr < low ∧ addr ≠ expected)

/-- An address out of place is neither E nor in the overlap range. -/
theorem Arrival.OutOfPlace.apart {a : Arrival} {low expected addr : Addr} {v : Vote} (out : a.OutOfPlace low expected)
    (address : a.address = some (addr, v)) : addr ≠ expected ∧ ¬ (low ≤ addr ∧ addr < expected) := by
  rcases out addr v address with above | ⟨below, other⟩
  · exact ⟨Nat.ne_of_gt above, fun range => Nat.lt_asymm above range.2⟩
  · exact ⟨other, fun range => absurd below (Nat.not_lt.2 range.1)⟩

/-- A discontinuity: the report, the count cleared, and the SKIP seek (R50, R58). -/
theorem State.arrive_skip {s : State} {a : Arrival} {addr : Addr} {v : Vote} (tracking : s.fill.state = .tracking)
    (address : a.address = some (addr, v))
    (out : a.OutOfPlace (s.track.expected - s.table.config.window) s.track.expected) : s.arrive a
      = (s.post (.skipDetected addr s.track.expected s.track.segment v)).runCleared.seekIssued .skip none 0 := by
  obtain ⟨other, beyond⟩ := out.apart address
  have free : (s.post (.skipDetected addr s.track.expected s.track.segment v)).runCleared.fill.state.recovering
      = false := by
    show (State.post _ _).fill.state.recovering = _
    rw [State.post_fill, tracking]; rfl
  have skips : s.arrive a = (s.discontinuity addr v).evaluateRepair := by
    simp only [State.arrive, State.trackArrival, tracking, address, if_neg other, if_neg beyond, if_true]
  rw [skips, show s.discontinuity addr v = _ from State.raiseCause_free _ free]
  exact State.evaluateRepair_idle (fill := .seeking) rfl (by decide)

/-- An unresolved vote in TRACKING is discarded (R46). -/
theorem State.arrive_unresolved {s : State} {a : Arrival} (tracking : s.fill.state = .tracking)
    (unresolved : a.address = none) : s.arrive a = s.evaluateRepair := by
  simp only [State.arrive, State.trackArrival, tracking, unresolved]

/-- In PAUSED_FULL an arrival out of place is discarded (R51). -/
theorem State.arrive_discarded_paused {s : State} {a : Arrival} (paused : s.fill.state = .pausedFull)
    (out : a.OutOfPlace (s.track.expected - s.table.config.window) s.track.expected) :
    s.arrive a = s.evaluateRepair := by
  rcases found : a.address with _ | ⟨addr, v⟩
  · simp only [State.arrive, State.trackArrival, paused, found]
  · obtain ⟨other, beyond⟩ := out.apart found
    simp only [State.arrive, State.trackArrival, paused, found, if_neg other, if_neg beyond, reduceCtorEq, if_false]

/-- In ABANDON_WAIT and END an arrival out of place is discarded, in ABANDON_WAIT one at E too (R52). -/
theorem State.arrive_discarded_resting {s : State} {a : Arrival}
    (out : (s.fill.state = .abandonWait ∧ ∃ v, a.address = some (s.track.expected, v))
      ∨ ((s.fill.state = .abandonWait ∨ s.fill.state = .ended)
        ∧ a.OutOfPlace (s.track.expected - s.table.config.window) s.track.expected)) : s.arrive a = s := by
  have resting : s.fill.state = .abandonWait ∨ s.fill.state = .ended := out.elim (.inl ·.1) (·.1)
  have idle : s.evaluateRepair = s := by
    rcases resting with state | state <;> exact State.evaluateRepair_idle state (by decide)
  have rests : s.arrive a = (s.restArrival a).evaluateRepair := by
    rcases resting with state | state <;> simp only [State.arrive, state]
  suffices s.restArrival a = s by rw [rests, this, idle]
  rcases out with ⟨wait, v, at_E⟩ | ⟨-, out⟩
  · simp [State.restArrival, at_E, wait]
  · rcases found : a.address with _ | ⟨addr, v⟩
    · simp only [State.restArrival, found]
    · obtain ⟨other, beyond⟩ := out.apart found
      simp only [State.restArrival, found]
      refine if_neg ?_
      rintro ⟨low, below | ⟨at_E, -⟩⟩
      · exact beyond ⟨low, below⟩
      · exact other at_E

/-- In RELOCKING an arrival out of place is a failed relock (R74, R75, R79). -/
theorem State.arrive_failedRelock {s : State} {a : Arrival} (relocking : s.fill.state = .relocking)
    (out : a.OutOfPlace s.relockLow s.track.expected) : s.arrive a = s.retryRecovery := by
  obtain ⟨notTracking, notPaused⟩ := State.retryRecovery_state s relocking
  have retries : s.relockArrival a = s.retryRecovery := by
    rcases found : a.address with _ | ⟨addr, v⟩
    · simp only [State.relockArrival, found]
    · obtain ⟨other, beyond⟩ := out.apart found
      simp only [State.relockArrival, found, if_neg other, if_neg beyond]
  simp only [State.arrive, relocking, retries]
  exact State.evaluateRepair_of_ne notTracking notPaused

/-- Settles O43: by fill state. -/
theorem arrivalsOutOfPlaceSeekAgain : Obligations.ArrivalsOutOfPlaceSeekAgain := by
  intro s f size h outside low
  rw [exec_sector size]
  refine ⟨fun addr v tracking address out => ?_, fun tracking unresolved => ?_, fun paused out => ?_,
    fun wait out => ?_, fun ended out => ?_, fun relocking out => ?_⟩
  · exact congrArg _ (State.arrive_skip (s := h) tracking address out)
  · exact congrArg _ (State.arrive_unresolved (s := h) tracking unresolved)
  · exact congrArg _ (State.arrive_discarded_paused (s := h) paused out)
  · exact congrArg _ (State.arrive_discarded_resting (s := h)
      (out.imp (And.intro wait) (And.intro (.inl wait))))
  · exact congrArg _ (State.arrive_discarded_resting (s := h) (.inr ⟨.inr ended, out⟩))
  · refine congrArg _ (State.arrive_failedRelock (s := h) relocking ?_)
    rcases active : s.fill.active with _ | cause
    · rw [State.relockLow_other (s := h) (by simp [h, active])]
      rw [active] at out
      exact out
    · simp only [active] at out
      split_ifs at out with repair
      · rw [State.relockLow_repair (s := h) active repair]
        exact out
      · rw [State.relockLow_other (s := h) (by simpa [h, active] using repair)]
        exact out

end Sys2Proof.Machine
end

section
/-! SUPPORT. Answers to a seek, the expiry of the watchdog and the retry (spec/04). -/

namespace Sys2Proof.Machine

/-! ### Answers -/

theorem exec_seekDone (tag : Tag) (status : SeekStatus) (s : State) :
    exec (.seekDone tag status) s = .next (s.seekAnswer tag status) := rfl

/-- Settles O45: by the test of a match, whose parts the conditions of a stale answer deny one by one. -/
theorem seekAnswersMatchOrAreStale : Obligations.SeekAnswersMatchOrAreStale := by
  intro s tag
  refine ⟨fun sent seeking outstanding => ?_, fun stale status => ⟨?_, rfl⟩⟩
  · have answered (status : SeekStatus) : exec (.seekDone tag status) s = .next (s.answerMatched status) := by
      rw [exec_seekDone, State.seekAnswer, if_pos ⟨sent, seeking, outstanding⟩]
    exact ⟨answered .locked, answered .failed⟩
  · rw [exec_seekDone, State.seekAnswer, if_neg]
    rintro ⟨sent, seeking, outstanding⟩
    rcases stale with waits | other | unmatched
    · rw [sent] at waits; cases waits
    · exact other seeking
    · exact unmatched outstanding

/-! ### The expiry of the watchdog -/

theorem exec_watchdogExpiry (s : State) : exec .watchdogExpiry s = .next s.takeExpiry := rfl

/-! ### The retry -/

section
variable {s : State} {cause : ActiveCause} (active : s.fill.active = some cause)
include active

/-- Below the retry limit the seek is issued again (R79). -/
theorem State.retryRecovery_below (below : s.fill.retry < s.table.config.retryLimit) :
    s.retryRecovery = s.runCleared.seekIssued cause.reason cause.fault (s.fill.retry + 1) := by
  simp only [State.retryRecovery, active, if_pos below, State.issue_eq_seekIssued]
  rfl

/-- At the retry limit the recovery is abandoned (R79). -/
theorem State.retryRecovery_limit (limit : s.table.config.retryLimit ≤ s.fill.retry) :
    s.retryRecovery = s.runCleared.abandonRecovery := by
  simp only [State.retryRecovery, active, if_neg (Nat.not_lt.2 limit)]
  rfl

/-- An abandoned REPAIR gives way to a REFILL (R80). -/
theorem State.abandonRecovery_repair (repair : cause.reason = .repair) :
    s.abandonRecovery = s.seekIssued .refill none 0 := by
  obtain ⟨reason, fault, target⟩ := cause
  cases repair
  rw [State.abandonRecovery, active]
  exact State.issueNew_none s _

/-- Any other abandoned cause skips ahead (R81). -/
theorem State.abandonRecovery_other (other : cause.reason ≠ .repair) : s.abandonRecovery = s.abandonAhead := by
  rw [State.abandonRecovery, active]
  split
  · rename_i found
    cases found
    exact absurd rfl other
  · rfl

end

/-- The length of a skip-ahead run, by whether the configured run passes the segment end (R81, step 3). -/
theorem State.runLength_eq {s : State} {last : Addr} (ends : (s.table.entry s.track.segment).last = last)
    (inside : s.track.expected ≤ last) : s.runLength
      = if last < s.track.expected + s.table.config.skipAhead - 1 then last - s.track.expected + 1
        else s.table.config.skipAhead := by
  have cut (skip e last : Nat) (inside : e ≤ last) :
      min skip (last + 1 - e) = if last < e + skip - 1 then last - e + 1 else skip := by
    split_ifs <;> omega
  rw [State.runLength, ends]
  exact cut _ _ _ inside

/-- A run which the store admits is appended at once (R81). -/
theorem State.abandonAhead_admitted {s : State} (room : s.store.admitsRun s.track.expected s.runLength = true) :
    s.abandonAhead = ((s.outOfRecovery s.fill.state).appendRun s.track.expected s.runLength).continueAbandon
      (s.track.expected + s.runLength - 1) :=
  if_pos room

/-- A run for which the store has no room is owed in ABANDON_WAIT (R81). -/
theorem State.abandonAhead_owed {s : State} (shut : ¬ s.store.admitsRun s.track.expected s.runLength = true) :
    s.abandonAhead = { s.runCleared.outOfRecovery .abandonWait with
      fill := ⟨.abandonWait, s.fill.tag, none, none, 0, s.fill.abandon, some ⟨s.track.expected, s.runLength⟩⟩ } :=
  if_neg shut

/-- Settles O46: the expiry by the watchdog, the retry by its count, and the abandon by its cause and the store's
test. -/
theorem expiryRetriesOrAbandons : Obligations.ExpiryRetriesOrAbandons := by
  refine ⟨fun s due => ?_, fun s cause active => ?_⟩
  · intro t
    have live (armed : s.timer.armed = true) : s.timer.armed ≠ false := ne_false_of_eq_true armed
    rw [exec_watchdogExpiry, State.takeExpiry, if_pos due]
    exact ⟨fun disarmed => congrArg _ (if_pos disarmed),
      fun armed below => congrArg _ ((if_neg (live armed)).trans (if_pos below)),
      fun armed full => congrArg _ ((if_neg (live armed)).trans (if_neg (Nat.not_lt.2 full)))⟩
  · intro r e last k room
    have cleared : r.fill.active = some cause := active
    refine ⟨State.retryRecovery_below active, fun limit repair => ?_, fun limit other inside => ?_⟩
    · exact (State.retryRecovery_limit active limit).trans (State.abandonRecovery_repair cleared repair)
    · have ahead : s.retryRecovery = r.abandonAhead :=
        (State.retryRecovery_limit active limit).trans (State.abandonRecovery_other cleared other)
      have length : r.runLength = k := State.runLength_eq (s := r) rfl inside
      have admits : r.store.admitsRun r.track.expected r.runLength = true ↔ room :=
        length ▸ Store.admitsRun_iff s.store e _
      rw [ahead]
      refine ⟨fun fits => ?_, fun shut => ?_⟩
      · rw [State.abandonAhead_admitted (admits.2 fits), length]
        rfl
      · rw [State.abandonAhead_owed (fun h => shut (admits.1 h)), length]
        rfl

end Sys2Proof.Machine
end

section
/-! SUPPORT. The PROFILE load (spec/07, spec/10). -/

namespace Sys2Proof.Machine

section
variable {s : State} (running : s.out.play ≠ .halted) {record : List Byte} {index : Byte} {p : Profile}
  (read : readProfile record = some (index, p))
include running read

/-- A PROFILE load for an index that names no profile is INVALID (R185). -/
theorem exec_profileLoad_refused (unnamed : profileIndexOf index = none) :
    exec (.profileLoad record) s = .next (s.post (.result .table 0x12#8 .invalid false)) := by
  simp only [exec, execProfileLoad, read, State.loaded_running _ _ _ running, unnamed]
  rfl

/-- A PROFILE load taken, with its REPAIR evaluation (R69, R185). -/
theorem exec_profileLoad_taken {i : ProfileIndex} (named : profileIndexOf index = some i) :
    exec (.profileLoad record) s
      = .next ((s.loadProfile i p).evaluateRepair.post (.result .table 0x12#8 .done false)) := by
  simp only [exec, execProfileLoad, read, State.loaded_running _ _ _ running, named]
  rfl

end

theorem longActionOf_eq (b : Byte) : longActionOf b
    = if b.toNat = 0 then .fade else if b.toNat = 1 then .mute else .drop := by
  rw [longActionOf.eq_def]; split <;> simp_all

theorem flagOf_eq (b : Byte) : flagOf b = decide (b.toNat ≠ 0) := by
  rw [flagOf, Bool.eq_iff_iff, bne_iff_ne, decide_eq_true_iff]
  exact not_congr BitVec.toNat_inj.symm

/-- A PROFILE record read and clamped (R131, R192). -/
theorem readProfile_eq (i ramp long fade enable lead : Byte) : readProfile [i, ramp, long, fade, enable, lead]
    = some (i, ⟨if 8 < ramp.toNat then 8 else ramp.toNat,
      if long.toNat = 0 then .fade else if long.toNat = 1 then .mute else .drop,
      if 6 < fade.toNat then 6 else fade.toNat, decide (enable.toNat ≠ 0),
      if lead.toNat < 16 then 16 else lead.toNat⟩) := by
  have upper (n hi : Nat) : min n hi = if hi < n then hi else n := by split_ifs <;> omega
  have lower (n : Nat) : max n 16 = if n < 16 then 16 else n := by split_ifs <;> omega
  simp only [readProfile, longActionOf_eq, flagOf_eq, upper, lower]

/-- Settles O33: the record as it is read, and the index by its range. -/
theorem profileLoadReplacesItsProfile : Obligations.ProfileLoadReplacesItsProfile := by
  intro s i ramp long fade enable lead running record
  have read := readProfile_eq i ramp long fade enable lead
  refine ⟨fun invalid => exec_profileLoad_refused running read (profileIndexOf_none invalid), fun index named => ?_⟩
  intro action p t u
  have loaded : s.loadProfile index p = u := State.loadProfile_eq s index p
  rw [exec_profileLoad_taken running read (profileIndexOf_of_eq named), loaded]

end Sys2Proof.Machine
end

section
/-! SUPPORT. The REPAIR evaluation (spec/05). -/

namespace Sys2Proof.Machine

/-- The three eligibility tests of an entry (R98). -/
theorem State.eligible_iff (s : State) (e : FaultEntry) : s.eligible e = true ↔
    e.segment = s.track.segment ∧ e.address < s.track.expected ∧ e.attempts < s.table.config.attemptLimit
      ∧ (s.table.profileOf e.segment).repairLead ≤ s.store.distance e.slot := by
  simp only [State.eligible, Bool.and_eq_true, beq_iff_eq, decide_eq_true_eq, and_assoc]

/-- With no eligible entry a REPAIR evaluation changes nothing (R97). -/
theorem State.evaluateRepair_of_none {s : State} (idle : ∀ e ∈ s.faults, ¬ s.eligible e = true) :
    s.evaluateRepair = s := by
  have found : s.faults.find? s.eligible = none := List.find?_eq_none.2 idle
  simp only [State.evaluateRepair, found, ite_self]

/-- The first eligible entry counts one attempt and has its seek issued: no recovery is in progress, so the arbiter
has nothing to weigh (R66, R97, R100). -/
theorem State.evaluateRepair_of_first {s : State} (active : s.fill.state = .tracking ∨ s.fill.state = .pausedFull)
    {front back : List FaultEntry} {e : FaultEntry} (list : s.faults = front ++ e :: back)
    (before : ∀ x ∈ front, ¬ s.eligible x = true) (eligible : s.eligible e = true) :
    s.evaluateRepair = ({ s with faults := countAttempt s.faults ⟨e.address, e.segment⟩ } : State).seekIssued
      .repair (some ⟨e.address, e.segment⟩) 0 := by
  have found : s.faults.find? s.eligible = some e :=
    List.find?_eq_some_iff_append.2 ⟨eligible, front, back, list, fun x hx => by simp [before x hx]⟩
  have free : ¬ s.fill.state.recovering = true := by
    rcases active with state | state <;> rw [state] <;> decide
  simp only [State.evaluateRepair, if_pos active, found, State.raiseCause, if_neg free, State.issueNew_some]

/-- Settles O44: the search of the list ends at the first entry that passes the tests, which are those of R98. -/
theorem repairEvaluationTakesTheOldestEntry : Obligations.RepairEvaluationTakesTheOldestEntry := by
  intro s eligible
  have tests (e : FaultEntry) : s.eligible e = true ↔ eligible e := s.eligible_iff e
  refine ⟨State.evaluateRepair_of_ne, fun idle => ?_, fun active front back e list before here => ?_⟩
  · exact State.evaluateRepair_of_none fun e he passes => idle e he ((tests e).1 passes)
  · exact State.evaluateRepair_of_first active list (fun x hx passes => before x hx ((tests x).1 passes))
      ((tests e).2 here)

end Sys2Proof.Machine
end

section
/-! SUPPORT. The arithmetic of gain and concealment (spec/07): levels, output samples, ramps and fade lengths. -/

namespace Sys2Proof.Machine

/-- A number within 16-bit two's complement is the value of its own sample. -/
theorem toInt_sample_ofInt {n : Int} (low : -32768 ≤ n) (high : n ≤ 32767) :
    (BitVec.ofInt 16 n : Sample).toInt = n :=
  BitVec.toInt_ofInt_eq_self (by decide) low (Int.lt_add_one_of_le high)

theorem le_toInt_sample (x : Sample) : -32768 ≤ x.toInt := BitVec.le_toInt x

theorem toInt_sample_le (x : Sample) : x.toInt ≤ 32767 := Int.le_of_lt_add_one x.toInt_lt

/-! ### The level gain and the combined gain (R137, R138) -/

/-- The mantissas are those of R137's table. -/
theorem levelMantissa_eq_getD : ∀ i < 8, levelMantissa i
    = [32768, 30048, 27554, 25268, 23170, 21247, 19484, 17867].getD i 0 := by decide

theorem levelMantissa_le : ∀ i < 8, levelMantissa i ≤ 32768 := by decide

theorem levelGain_of_le {code : Nat} (audible : code ≤ 62) :
    levelGain code = levelMantissa (code % 8) / 2 ^ (code / 8) :=
  if_neg (by omega)

theorem levelGain_of_ge {code : Nat} (silent : 63 ≤ code) : levelGain code = 0 := if_pos silent

theorem levelGain_le (code : Nat) : levelGain code ≤ 32768 := by
  rcases Nat.lt_or_ge code 63 with audible | silent
  · rw [levelGain_of_le (Nat.le_of_lt_succ audible)]
    exact (Nat.div_le_self _ _).trans (levelMantissa_le _ (Nat.mod_lt _ (by decide)))
  · rw [levelGain_of_ge silent]
    exact Nat.zero_le _

theorem combinedGain_le {g lg : Nat} (hg : g ≤ 32768) (hlg : lg ≤ 32768) : combinedGain g lg ≤ 32768 := by
  have product : g * lg ≤ 32768 * 32768 := Nat.mul_le_mul hg hlg
  rw [combinedGain]
  omega

/-! ### The output samples (R138) -/

section
variable (x : Sample) {gain : Nat} (bound : gain ≤ 32768)
include bound

theorem le_scaleSample : -32768 ≤ scaleSample x.toInt gain := by
  have product : -32768 * 32768 ≤ x.toInt * gain := by nlinarith [le_toInt_sample x]
  rw [scaleSample]
  omega

theorem scaleSample_le : scaleSample x.toInt gain ≤ 32767 := by
  have product : x.toInt * gain ≤ 32767 * 32768 := by nlinarith [toInt_sample_le x]
  rw [scaleSample]
  omega

/-- No output sample needs clamping. -/
theorem toInt_ofInt_scaleSample :
    (BitVec.ofInt 16 (scaleSample x.toInt gain) : Sample).toInt = scaleSample x.toInt gain :=
  toInt_sample_ofInt (le_scaleSample x bound) (scaleSample_le x bound)

end

theorem scaleSample_unity (s : Int) : scaleSample s 32768 = s := by
  rw [scaleSample]
  omega

theorem scaleSample_mute (s : Int) : scaleSample s 0 = 0 := by simp [scaleSample]

theorem scaleSample_silence (gain : Nat) : scaleSample 0 gain = 0 := by simp [scaleSample]

theorem Pair.scale_unity (p : Pair) : p.scale 32768 = p := by
  simp only [Pair.scale, scaleSample_unity, BitVec.ofInt_toInt]

theorem Pair.scale_mute (p : Pair) : p.scale 0 = Pair.zero := by
  simp only [Pair.scale, scaleSample_mute]
  rfl

theorem Pair.scale_zero (gain : Nat) : Pair.zero.scale gain = Pair.zero := by
  have silence : (Pair.zero.left.toInt = 0) ∧ Pair.zero.right.toInt = 0 := by decide
  simp only [Pair.scale, silence, scaleSample_silence]
  rfl

/-- Settles O8: the level gain by its table, the combined gain by its factors, the output sample by the range of the
sample it scales. -/
theorem outputSamplesStayInRange : Obligations.OutputSamplesStayInRange := by
  refine ⟨fun code audible => ?_, levelGain_of_ge le_rfl, levelGain_le,
    fun _ _ hg hlg => ⟨rfl, combinedGain_le hg hlg⟩,
    fun x _ bound => ⟨le_scaleSample x bound, scaleSample_le x bound⟩,
    fun p _ bound => ⟨toInt_ofInt_scaleSample p.left bound, toInt_ofInt_scaleSample p.right bound⟩,
    fun p => ⟨p.scale_unity, p.scale_mute⟩, fun gain _ => Pair.scale_zero gain⟩
  rw [levelGain_of_le audible, levelMantissa_eq_getD _ (Nat.mod_lt _ (by decide))]

/-! ### The ramp (R143) -/

/-- Before the place of its second anchor a ramp has come no further than that anchor: k stays below len + 1, and
rounding to the nearest cannot pass the next integer. -/
theorem rampDistance_le {len k : Nat} (within : k ≤ len) (d : Nat) : rampDistance d len k ≤ d := by
  have place : d * k ≤ d * (len + 1) := Nat.mul_le_mul_left d (Nat.le_succ_of_le within)
  have rounded : 2 * (d * k) + (len + 1) < (d + 1) * (2 * (len + 1)) := by linarith
  exact Nat.le_of_lt_succ ((Nat.div_lt_iff_lt_mul (by omega)).2 rounded)

/-- A ramp runs from its first anchor toward the second. -/
theorem rampSample_eq (a b : Int) (len k : Nat) : rampSample a b len k
    = if a ≤ b then a + rampDistance (b - a).natAbs len k else a - rampDistance (b - a).natAbs len k := by
  simp only [rampSample, sub_nonneg]

section
variable {len k : Nat} (within : k ≤ len)
include within

theorem min_le_rampSample (a b : Int) : min a b ≤ rampSample a b len k := by
  have distance := rampDistance_le within (b - a).natAbs
  rw [rampSample_eq]
  split_ifs <;> omega

theorem rampSample_le_max (a b : Int) : rampSample a b len k ≤ max a b := by
  have distance := rampDistance_le within (b - a).natAbs
  rw [rampSample_eq]
  split_ifs <;> omega

/-- A ramp's sample is a 16-bit sample as it stands, since both its anchors are. -/
theorem toInt_ofInt_rampSample (x y : Sample) :
    (BitVec.ofInt 16 (rampSample x.toInt y.toInt len k) : Sample).toInt = rampSample x.toInt y.toInt len k :=
  toInt_sample_ofInt ((le_min (le_toInt_sample x) (le_toInt_sample y)).trans (min_le_rampSample within _ _))
    ((rampSample_le_max within _ _).trans (max_le (toInt_sample_le x) (toInt_sample_le y)))

end

/-- Settles O9, from the bound on the distance gone. -/
theorem rampStaysBetweenItsAnchors : Obligations.RampStaysBetweenItsAnchors := by
  intro a b len k _ within q sample
  have ramp (x y : Sample) : sample x y = rampSample x.toInt y.toInt len k := (rampSample_eq _ _ _ _).symm
  simp only [ramp]
  exact ⟨toInt_ofInt_rampSample within _ _, toInt_ofInt_rampSample within _ _,
    min_le_rampSample within _ _, rampSample_le_max within _ _,
    min_le_rampSample within _ _, rampSample_le_max within _ _⟩

/-! ### The moves of a fade (R134) -/

theorem moveFade_zero (g step : Nat) : moveFade g 0 step = g - step := by
  rw [moveFade]
  split_ifs <;> omega

theorem moveFade_of_add_le {g target step : Nat} (room : g + step ≤ target) : moveFade g target step = g + step := by
  rw [moveFade]
  split_ifs <;> omega

theorem moveFade_zero_iterate (g step k : Nat) : (fun g => moveFade g 0 step)^[k] g = g - k * step := by
  induction k with
  | zero => simp
  | succ k ih => rw [Function.iterate_succ_apply', ih, moveFade_zero, Nat.sub_sub, Nat.succ_mul]

theorem moveFade_iterate_zero {target step k : Nat} (room : k * step ≤ target) :
    (fun g => moveFade g target step)^[k] 0 = k * step := by
  induction k with
  | zero => simp
  | succ k ih =>
    rw [Nat.succ_mul] at room ⊢
    rw [Function.iterate_succ_apply', ih (Nat.le_of_add_right_le room), moveFade_of_add_le room]

/-! ### The lengths of a fade (R134, R145, R149) -/

theorem le_fadeLength (code : Nat) : 64 ≤ fadeLength code := Nat.le_mul_of_pos_right 64 (Nat.two_pow_pos code)

section
variable {code : Nat} (legal : code ≤ 6)
include legal

theorem fadeLength_le : fadeLength code ≤ 4096 :=
  Nat.mul_le_mul_left 64 (Nat.pow_le_pow_right (by decide) legal)

/-- The length of every fade code divides unity. -/
theorem fadeLength_mul_stepOfLength : fadeLength code * stepOfLength (fadeLength code) = 32768 := by
  have small : 64 * 2 ^ code ∣ 64 * 2 ^ 9 := Nat.mul_dvd_mul_left 64 (Nat.pow_dvd_pow 2 (by omega))
  exact Nat.mul_div_cancel' small

/-- The steps of a fade add up to unity exactly when as many were taken as the fade is long. -/
theorem unity_sub_steps_eq_zero_iff {k : Nat} (within : k ≤ fadeLength code) :
    32768 - k * stepOfLength (fadeLength code) = 0 ↔ k = fadeLength code := by
  have whole := fadeLength_mul_stepOfLength legal
  have moves : 0 < stepOfLength (fadeLength code) := Nat.pos_of_ne_zero fun h => by simp [h] at whole
  rw [Nat.sub_eq_zero_iff_le, ← whole, Nat.mul_le_mul_right_iff moves]
  exact ⟨within.antisymm, Eq.ge⟩

end

/-- In a list that halves from a number above n down to one that n reaches, the first number n reaches is more
than half of n. -/
theorem find?_le_of_halving {n : Nat} {l : List Nat} (reached : ∃ q ∈ l, q ≤ n) {top : Nat} (above : n < top)
    (halving : (top :: l).IsChain fun a b => a = 2 * b) :
    ∃ q ∈ l, l.find? (fun q => q ≤ n) = some q ∧ q ≤ n ∧ n < 2 * q := by
  induction l generalizing top with
  | nil => simp at reached
  | cons q l ih =>
    obtain ⟨rfl, rest⟩ := List.isChain_cons_cons.1 halving
    rcases Nat.lt_or_ge n q with short | fits
    · have later : ∃ r ∈ l, r ≤ n := by simpa [short.not_ge] using reached
      obtain ⟨r, mem, found, bounds⟩ := ih later short rest
      exact ⟨r, .tail _ mem, by simpa [short.not_ge] using found, bounds⟩
    · exact ⟨q, .head _, by simp [fits], fits, above⟩

theorem concealLength_of_le {len samples : Nat} (room : len ≤ samples) : concealLength len samples = some len :=
  if_pos room

/-- A run shorter than the fade is given the largest length of R145's list that it has room for. -/
theorem concealLength_of_lt {len samples : Nat} (bound : len ≤ 4096) (short : samples < len) (room : 64 ≤ samples) :
    ∃ q ∈ [2048, 1024, 512, 256, 128, 64], concealLength len samples = some q ∧ q ≤ samples ∧ samples < 2 * q := by
  rw [concealLength, if_neg short.not_ge]
  exact find?_le_of_halving ⟨64, by decide, room⟩ (short.trans_le bound) (by decide)

theorem concealLength_none {len samples : Nat} (long : 64 ≤ len) (short : samples < 64) :
    concealLength len samples = none := by
  have listed : ∀ q ∈ [2048, 1024, 512, 256, 128, 64], 64 ≤ q := by decide
  rw [concealLength, if_neg (short.trans_le long).not_ge, List.find?_eq_none]
  intro q mem
  simpa using short.trans_le (listed q mem)

/-- Settles O10: a fade's steps add up to unity over its length, and the concealment length by the room in the run. -/
theorem fadesTakeExactlyTheirLength : Obligations.FadesTakeExactlyTheirLength := by
  intro code k samples legal len step
  refine ⟨rfl, fun within => ⟨moveFade_zero_iterate _ _ _, moveFade_iterate_zero ?_,
    unity_sub_steps_eq_zero_iff legal within⟩, concealLength_of_le, fun short room => ?_,
    concealLength_none (le_fadeLength code), rfl⟩
  · calc k * step ≤ len * step := Nat.mul_le_mul_right step within
      _ = 32768 := fadeLength_mul_stepOfLength legal
  · obtain ⟨q, mem, chosen⟩ := concealLength_of_lt (fadeLength_le legal) short room
    exact ⟨q, List.mem_reverse.2 mem, chosen⟩

end Sys2Proof.Machine
end

section
/-! SUPPORT. The rises of the timebase and the watchdog, and the close edge that clears them (spec/08, spec/09). -/

namespace Sys2Proof.Machine

/-! ### The carries of the selected period (R153, R156) -/

/-- How many of the n rises from a count carry out of a period: the multiples of it that they pass. -/
def carriesIn (period count n : Nat) : Nat := (count + n) / period - count / period

theorem carriesIn_zero (period count : Nat) : carriesIn period count 0 = 0 := Nat.sub_self _

theorem carriesIn_succ (period count n : Nat) : carriesIn period count (n + 1)
    = carriesIn period count n + if period ∣ count + n + 1 then 1 else 0 := by
  have earlier : count / period ≤ (count + n) / period := Nat.div_le_div_right (Nat.le_add_right _ _)
  rw [carriesIn, carriesIn, ← Nat.add_assoc, Nat.succ_div]
  omega

theorem carriesIn_mono {period count m n : Nat} (le : m ≤ n) :
    carriesIn period count m ≤ carriesIn period count n :=
  Nat.sub_le_sub_right (Nat.div_le_div_right (Nat.add_le_add_left le count)) _

/-- Any k periods of rises carry k times, wherever they start. -/
theorem carriesIn_mul {period : Nat} (pos : 0 < period) (count k : Nat) :
    carriesIn period count (k * period) = k := by
  rw [carriesIn, Nat.add_mul_div_right _ _ pos, Nat.add_sub_cancel_left]

/-- From a cleared count the k-th carry is at the last rise of the k-th period. -/
theorem le_carriesIn_iff {period : Nat} (pos : 0 < period) (k n : Nat) :
    k ≤ carriesIn period 0 n ↔ k * period ≤ n := by
  rw [carriesIn, Nat.zero_add, Nat.zero_div, Nat.sub_zero, Nat.le_div_iff_mul_le pos]

theorem watchdogPeriod_pos (code : Nat) : 0 < watchdogPeriod code := Nat.mul_pos (by decide) (Nat.two_pow_pos code)

/-- Each period divides the timebase's range, so that its carries do not see the count wrap. -/
theorem watchdogPeriod_dvd {code : Nat} (legal : code ≤ 3) : watchdogPeriod code ∣ 65536 :=
  Nat.mul_dvd_mul_left 8 (Nat.pow_dvd_pow 2 (by omega : code ≤ 13))

/-! ### The rises of an armed watchdog (R153 to R157) -/

/-- The timer after n rises under one record. -/
def Timer.rises (t : Timer) (c : ConfigRecord) (settling : Bool) (n : Nat) : Timer :=
  (fun u : Timer => u.rise c settling)^[n] t

section
variable {t : Timer} {c : ConfigRecord} {settling : Bool} {n : Nat}

theorem Timer.rises_succ : t.rises c settling (n + 1) = (t.rises c settling n).rise c settling :=
  Function.iterate_succ_apply' _ _ _

/-- A rise of an armed watchdog without a carry leaves the counter and the expiry as they are. -/
theorem Timer.rise_of_not_dvd (quiet : ¬ watchdogPeriod c.watchdogCode ∣ (t.count + 1) % 65536) :
    (t.rise c settling).watchdog = t.watchdog ∧ (t.rise c settling).expiryDue = t.expiryDue := by
  simp [Timer.rise, ← Nat.dvd_iff_mod_eq_zero, quiet]

/-- A carry counts an armed watchdog up to 3, and has the expiry due where it stands at 3 (R156). -/
theorem Timer.rise_of_dvd (armed : t.armed = true) (carry : watchdogPeriod c.watchdogCode ∣ (t.count + 1) % 65536) :
    (t.rise c settling).watchdog = (if t.watchdog < 3 then t.watchdog + 1 else t.watchdog)
    ∧ (t.rise c settling).expiryDue = (t.expiryDue || decide (3 ≤ t.watchdog)) := by
  simp [Timer.rise, armed, Nat.mod_eq_zero_of_dvd carry]

theorem Timer.rises_armed : (t.rises c settling n).armed = t.armed := by
  induction n with
  | zero => rfl
  | succ n ih => rw [rises_succ, ← ih]; rfl

theorem Timer.rises_count (range : t.count < 65536) : (t.rises c settling n).count = (t.count + n) % 65536 := by
  induction n with
  | zero => exact (Nat.mod_eq_of_lt range).symm
  | succ n ih =>
    have next : (t.rises c settling (n + 1)).count = ((t.rises c settling n).count + 1) % 65536 := by
      rw [rises_succ]; rfl
    rw [next, ih, Nat.mod_add_mod, Nat.add_assoc]

/-- An armed watchdog that starts from 0 stands at the number of carries, 3 at most, and its expiry is due from the
fourth carry on. -/
theorem Timer.rises_watchdog (armed : t.armed = true) (cleared : t.watchdog = 0) (fresh : t.expiryDue = false)
    (range : t.count < 65536) (legal : c.watchdogCode ≤ 3) :
    (t.rises c settling n).watchdog = min (carriesIn (watchdogPeriod c.watchdogCode) t.count n) 3
    ∧ (t.rises c settling n).expiryDue = decide (4 ≤ carriesIn (watchdogPeriod c.watchdogCode) t.count n) := by
  induction n with
  | zero => simp [carriesIn_zero, rises, cleared, fresh]
  | succ n ih =>
    obtain ⟨counted, due⟩ := ih
    have passes : watchdogPeriod c.watchdogCode ∣ ((t.rises c settling n).count + 1) % 65536
        ↔ watchdogPeriod c.watchdogCode ∣ t.count + n + 1 := by
      rw [rises_count range, Nat.mod_add_mod, Nat.dvd_mod_iff (watchdogPeriod_dvd legal)]
    rw [rises_succ, carriesIn_succ]
    by_cases carry : watchdogPeriod c.watchdogCode ∣ t.count + n + 1
    · obtain ⟨watchdog, expiry⟩ := rise_of_dvd (settling := settling) (rises_armed.trans armed) (passes.2 carry)
      rw [watchdog, expiry, counted, due, if_pos carry]
      refine ⟨by split <;> omega, ?_⟩
      rw [← Bool.decide_or]
      exact decide_eq_decide.2 (by omega)
    · obtain ⟨watchdog, expiry⟩ := rise_of_not_dvd (settling := settling) (mt passes.1 carry)
      rw [watchdog, expiry, if_neg carry, Nat.add_zero]
      exact ⟨counted, due⟩

end

/-- Settles O11: three periods of rises carry three times and four carry four times, and the expiry is due from the
fourth carry on. -/
theorem watchdogExpiresWithinItsBounds : Obligations.WatchdogExpiresWithinItsBounds := by
  intro t c settling n armed cleared fresh range legal period after
  have pos : 0 < period := watchdogPeriod_pos _
  have due : after n = decide (4 ≤ carriesIn period t.count n) :=
    (Timer.rises_watchdog armed cleared fresh range legal).2
  rw [due, decide_eq_false_iff_not, decide_eq_true_iff]
  refine ⟨fun early => ?_, fun late => ?_, fun start => ?_⟩
  · have most : carriesIn period t.count n ≤ 3 := carriesIn_mul pos t.count 3 ▸ carriesIn_mono early
    omega
  · exact carriesIn_mul pos t.count 4 ▸ carriesIn_mono late
  · rw [start]
    exact le_carriesIn_iff pos 4 n

/-! ### A close edge (R154, R162, R167) -/

theorem exec_closeEdge (s : State) : exec .closeEdge s = .next s.takeCloseEdge := rfl

section
variable {s : State} (low : s.tray.line = .low)
include low

/-- A close edge in OPEN has the disc settle. -/
theorem State.takeCloseEdge_of_opened (opened : s.tray.state = .opened) : s.takeCloseEdge
    = ({ s with tray := { s.tray.takeEdge .high with state := .settling }, timer := s.timer.clear }
        : State).postTray := by
  simp [takeCloseEdge, low, Tray.takeEdge, opened]

/-- A close edge in FADING leaves the save step still to come. -/
theorem State.takeCloseEdge_of_fading (fading : s.tray.state = .fading) : s.takeCloseEdge
    = ({ s with tray := s.tray.takeEdge .high, timer := s.timer.clear } : State).postTray := by
  simp [takeCloseEdge, low, Tray.takeEdge, fading]

end

/-- Settles O25: the edge by the tray state it finds, reported as it stands after the handling. -/
theorem closeEdgeClearsTheTimebase : Obligations.CloseEdgeClearsTheTimebase := by
  intro s low edged cleared
  refine ⟨fun opened => ?_, fun fading => ?_⟩
  · rw [exec_closeEdge, State.takeCloseEdge_of_opened low opened]
    rfl
  · have reported : edged.state = .fading := fading
    rw [exec_closeEdge, State.takeCloseEdge_of_fading low fading, ← reported]
    rfl

end Sys2Proof.Machine
end

section
/-! SUPPORT. The open edge, the save step and the Resume Table, ACK_TRAY and IDENTIFY (spec/09). -/

namespace Sys2Proof.Machine

/-! ### An open edge (R162, R163, R166, R167) -/

theorem exec_openEdge (s : State) : exec .openEdge s = .next s.takeOpenEdge := rfl

section
variable {s : State}

/-- The play states in which an open edge in CLOSED starts the fade toward the save (R166). -/
theorem State.openFromClosed_held (play : s.out.play = .playing ∨ s.out.play = .pausing ∨ s.out.play = .starved
      ∨ s.out.play = .priming ∨ s.out.play = .paused) :
    let held := { s.fadedInto .trayHold 0 with tray := { s.tray with state := .fading } }
    s.openFromClosed = if s.gain.fade = 0 then held.savedAt held.savePosition else held := by
  intro held
  have faded : ({ s with tray := { s.tray with state := .fading } } : State).enter .trayHold = held :=
    State.enter_eq _ _
  rw [← State.save_eq, ← faded]
  rcases play with p | p | p | p | p <;> rw [openFromClosed, p] <;> rfl

/-- STOPPING goes on under an open edge in CLOSED, and has the tray FADING (R166). -/
theorem State.openFromClosed_stopping (play : s.out.play = .stopping) :
    s.openFromClosed = { s with tray := { s.tray with state := .fading } } := by
  rw [openFromClosed, play]

/-- Where nothing plays an open edge in CLOSED opens the tray at once (R166). -/
theorem State.openFromClosed_silent (play : s.out.play = .idle ∨ s.out.play = .halted) :
    s.openFromClosed = { s with tray := { s.tray with state := .opened, fingerprint := none } } := by
  rcases play with p | p <;> rw [openFromClosed, p]

variable (high : s.tray.line = .high)
include high

theorem State.takeOpenEdge_of_closed (closed : s.tray.state = .closed) :
    s.takeOpenEdge = ({ s with tray := s.tray.takeEdge .low } : State).openFromClosed.postTray := by
  simp only [takeOpenEdge, high, Tray.takeEdge, closed]

/-- An open edge in FADING leaves the save step still to come (R167). -/
theorem State.takeOpenEdge_of_fading (fading : s.tray.state = .fading) :
    s.takeOpenEdge = ({ s with tray := s.tray.takeEdge .low } : State).post (.tray .low .fading) := by
  simp only [takeOpenEdge, high, Tray.takeEdge, fading, postTray]

/-- An open edge in SETTLING takes a settle end that waits with it (R167, log 5). -/
theorem State.takeOpenEdge_of_settling (settling : s.tray.state = .settling) : s.takeOpenEdge
    = ({ s with tray := { s.tray.takeEdge .low with state := .opened }, timer := { s.timer with settleDue := false } }
        : State).post (.tray .low .opened) := by
  simp only [takeOpenEdge, high, Tray.takeEdge, settling, postTray]

theorem State.takeOpenEdge_of_awaitId (waits : s.tray.state = .awaitId) : s.takeOpenEdge
    = ({ s with tray := { s.tray.takeEdge .low with state := .opened } } : State).post (.tray .low .opened) := by
  simp only [takeOpenEdge, high, Tray.takeEdge, waits, postTray]

end

/-- Settles O24: the edge by the tray state it finds, in CLOSED by the play state, reported as the tray stands after
the handling. -/
theorem openEdgeActsByTrayAndPlayState : Obligations.OpenEdgeActsByTrayAndPlayState := by
  intro s high edged held
  rw [exec_openEdge]
  refine ⟨fun closed => ?_, fun fading => congrArg _ (State.takeOpenEdge_of_fading high fading),
    fun settling => congrArg _ (State.takeOpenEdge_of_settling high settling),
    fun waits => congrArg _ (State.takeOpenEdge_of_awaitId high waits)⟩
  rw [State.takeOpenEdge_of_closed high closed]
  let t : State := { s with tray := s.tray.takeEdge .low }
  refine ⟨fun play => ?_, fun stopping => ?_, fun silent => ?_⟩
  · have opened := State.openFromClosed_held (s := t) play
    refine ⟨fun sounding => ?_, fun mute => ?_⟩
    · rw [opened, if_neg sounding]
      rfl
    · rw [opened, if_pos mute]
      rfl
  · rw [State.openFromClosed_stopping (s := t) stopping]
    rfl
  · rw [State.openFromClosed_silent (s := t) silent]
    rfl

/-! ### The list signature (R173) -/

/-- The eight bytes of an entry, one by one. -/
theorem PlayEntry.signatureBytes_eq (e : PlayEntry) : e.signatureBytes
    = [BitVec.ofNat 8 (e.first / 65536), BitVec.ofNat 8 (e.first / 256), BitVec.ofNat 8 e.first,
      BitVec.ofNat 8 (e.last / 65536), BitVec.ofNat 8 (e.last / 256), BitVec.ofNat 8 e.last,
      BitVec.ofNat 8 e.profile.val, BitVec.ofNat 8 ((if e.valid then 1 else 0) + (if e.eol then 2 else 0))] := by
  have flags : e.valid.toNat + 2 * e.eol.toNat = (if e.valid then 1 else 0) + (if e.eol then 2 else 0) := by
    cases e.valid <;> cases e.eol <;> rfl
  rw [signatureBytes, beBytes_three_eq, beBytes_three_eq, flags]
  rfl

/-! ### The pair that would be handed on next (R112, R169) -/

section
variable {s : State} {slot : Slot} {rest : List Slot}

theorem State.waitingPosition_of_held (held : s.store.slots = slot :: rest) :
    s.waitingPosition = ⟨slot.segment, slot.address, s.out.startOffset⟩ := by
  rw [waitingPosition, held]

theorem State.waitingPosition_of_empty (empty : s.store.slots = []) :
    s.waitingPosition = ⟨s.track.segment, s.track.expected, s.out.startOffset⟩ := by
  rw [waitingPosition, empty]

/-- Without a head for output the next pair is that of the waiting position. -/
theorem State.savePosition_of_no_head (cursor : s.out.cursor = .waiting ∨ s.out.cursor = .next) :
    s.savePosition = s.waitingPosition := by
  rcases cursor with c | c <;> simp only [savePosition, cursorPosition, c]

theorem State.savePosition_of_head {off : Nat} (cursor : s.out.cursor = .head off)
    (held : s.store.slots = slot :: rest) : s.savePosition = ⟨slot.segment, slot.address, off⟩ := by
  simp only [savePosition, cursorPosition, cursor, waitingPosition_of_held held]

/-- After a finished head comes the first pair of the following slot. -/
theorem State.savePosition_of_finished {following : Slot} (cursor : s.out.cursor = .finished)
    (held : s.store.slots = slot :: following :: rest) :
    s.savePosition = ⟨following.segment, following.address, 0⟩ := by
  simp only [savePosition, cursor, held, List.getElem?_cons_succ, List.getElem?_cons_zero]

/-- After the last held block comes the first pair of the block the fill brings. -/
theorem State.savePosition_of_finished_last (cursor : s.out.cursor = .finished) (held : s.store.slots = [slot]) :
    s.savePosition = ⟨s.track.segment, s.track.expected, 0⟩ := by
  simp only [savePosition, cursor, held, List.getElem?_cons_succ, List.getElem?_nil]

end

/-! ### The save step (R168) -/

theorem exec_saveStep_due {s : State} (play : s.out.play = .trayHold) (fading : s.tray.state = .fading)
    (mute : s.gain.fade = 0) : exec .saveStep s = .next (s.savedAt s.savePosition) := by
  have due : s.beforeSave = true := by rw [State.beforeSave, play, fading]; rfl
  have taken : s.takeSaveStep = s.save := if_pos ⟨due, mute⟩
  rw [← State.save_eq, ← taken]
  rfl

/-- Settles O26: the signature entry by entry, and the position saved by the cursor and the held slots. -/
theorem saveStepRecordsTheNextPair : Obligations.SaveStepRecordsTheNextPair := by
  refine ⟨fun t => ?_, fun s play fading mute => ?_⟩
  · rw [Tables.signature, funext PlayEntry.signatureBytes_eq]
  rw [exec_saveStep_due play fading mute]
  refine ⟨fun slot rest off cursor held => ?_, fun slot following rest cursor held => ?_,
    fun slot cursor held => ?_, fun slot rest cursor held => ?_, fun cursor empty => ?_⟩
  · rw [State.savePosition_of_head cursor held]
  · rw [State.savePosition_of_finished cursor held]
  · rw [State.savePosition_of_finished_last cursor held]
  · rw [State.savePosition_of_no_head cursor, State.waitingPosition_of_held held]
  · rw [State.savePosition_of_no_head (.inl cursor), State.waitingPosition_of_empty empty]

/-! ### The RESUME load (R172, R186) -/

/-- A RESUME record read, its numbers from their bytes (R192). -/
theorem readResume_beBytes (f : Fingerprint) (signature : CheckWord) (segment level rep : Byte) (address : BitVec 24)
    (offset : BitVec 16) :
    readResume (beBytes 4 f.toNat ++ beBytes 2 signature.toNat ++ [segment] ++ beBytes 3 address.toNat
        ++ beBytes 2 offset.toNat ++ [level, rep])
      = some ⟨f, signature, segment, address.toNat, offset.toNat, level, rep⟩ := by
  obtain ⟨f3, f2, f1, f0, bytesF, fingerprint⟩ := beBytes_four f
  obtain ⟨s1, s0, bytesS, -, check⟩ := beBytes_two signature
  obtain ⟨a2, a1, a0, bytesA, number⟩ := beBytes_three address
  obtain ⟨o1, o0, bytesO, place, -⟩ := beBytes_two offset
  simp only [bytesF, bytesS, bytesA, bytesO, List.cons_append, List.nil_append, readResume, fingerprint, check,
    number, place]

/-- A RESUME record that names no segment or no pair of a block is refused (R186). -/
theorem ResumeFields.record_refused {r : ResumeFields} (refused : 64 ≤ r.segment.toNat ∨ 480 ≤ r.offset) :
    r.record = none := by
  rcases refused with unnamed | beyond
  · rw [record, segmentOf_none unnamed]
  · rw [record]
    split
    · exact if_neg (Nat.not_lt.2 beyond)
    · rfl

/-- A RESUME record accepted, its level clamped (R186, R192). -/
theorem ResumeFields.record_accepted {r : ResumeFields} {seg : SegmentIndex} (named : r.segment.toNat = seg.val)
    (inside : r.offset < 480) :
    r.record = some ⟨r.fingerprint, r.signature, ⟨seg, r.address, r.offset⟩,
      if 63 < r.level.toNat then 63 else r.level.toNat, decide (r.repeatByte.toNat ≠ 0)⟩ := by
  have clamped : min r.level.toNat 63 = if 63 < r.level.toNat then 63 else r.level.toNat := by split_ifs <;> omega
  rw [record, segmentOf_of_eq named, ← clamped, ← flagOf_eq]
  exact if_pos inside

theorem insertRecord_eq (l : List ResumeRecord) (r : ResumeRecord) :
    insertRecord l r = (r :: l.filter (fun x => x.fingerprint ≠ r.fingerprint)).take 8 := by
  simp only [insertRecord, bne, decide_not, beq_eq_decide]
  rfl

section
variable {s : State} (running : s.out.play ≠ .halted) {record : List Byte} {fields : ResumeFields}
  (read : readResume record = some fields)
include running read

theorem exec_resumeLoad_refused (refused : fields.record = none) :
    exec (.resumeLoad record) s = .next (s.post (.result .table 0x14#8 .invalid false)) := by
  simp only [exec, execResumeLoad, read, State.loaded_running _ _ _ running, refused]
  rfl

theorem exec_resumeLoad_taken {r : ResumeRecord} (accepted : fields.record = some r) : exec (.resumeLoad record) s
    = .next ({ s with tray := { s.tray with records := insertRecord s.tray.records r } }.post
        (.result .table 0x14#8 .done false)) := by
  simp only [exec, execResumeLoad, read, State.loaded_running _ _ _ running, accepted]
  rfl

end

/-- Settles O35: the record as it is read, refused or accepted by its fields, and inserted. -/
theorem resumeLoadInsertsItsRecord : Obligations.ResumeLoadInsertsItsRecord := by
  intro s f signature segment level rep address offset running record
  have read := readResume_beBytes f signature segment level rep address offset
  refine ⟨fun refused => exec_resumeLoad_refused running read (ResumeFields.record_refused refused),
    fun seg named inside => ?_⟩
  rw [exec_resumeLoad_taken running read (ResumeFields.record_accepted named inside), insertRecord_eq]

/-! ### ACK_TRAY (R164) -/

theorem State.commanded_running (s t : State) (code : Byte) (running : s.out.play ≠ .halted) :
    s.commanded code true t = t := by
  rw [State.commanded, if_neg running, if_pos rfl]

theorem exec_ackTray {s : State} (running : s.out.play ≠ .halted) : exec (.ackTray []) s = .next s.ackTray :=
  congrArg _ (s.commanded_running s.ackTray _ running)

/-- Under EDGE, and with the line high, the flag is cleared. -/
theorem State.ackTray_cleared {s : State} (quiet : s.table.config.sensitivity = .edge ∨ s.tray.line = .high) :
    s.ackTray = { s with tray := { s.tray with pendingFlag := false } }.done 0x0A#8 := by
  rcases quiet with byEdge | high
  · simp only [ackTray, byEdge, reduceCtorEq, false_and, if_false]
  · simp only [ackTray, high, reduceCtorEq, and_false, if_false]

/-- Under EDGE_AND_LEVEL a low line sets the flag again and is reported again. -/
theorem State.ackTray_set_again {s : State} (byLevel : s.table.config.sensitivity = .edgeAndLevel)
    (low : s.tray.line = .low) : s.ackTray
      = (({ s with tray := { s.tray with pendingFlag := true } } : State).post (.tray .low s.tray.state)).done
          0x0A#8 := by
  simp only [ackTray, byLevel, low, and_self, if_true, postTray]

/-- Settles O27: by the one test of ACK_TRAY, of the sensitivity and the line. -/
theorem ackTrayClearsThePendingFlag : Obligations.AckTrayClearsThePendingFlag := by
  intro s running
  rw [exec_ackTray running]
  exact ⟨fun quiet => congrArg _ (State.ackTray_cleared quiet),
    fun byLevel low => congrArg _ (State.ackTray_set_again byLevel low)⟩

/-! ### IDENTIFY (R171, R174) -/

theorem exec_identify {s : State} (running : s.out.play ≠ .halted) (f : Fingerprint) :
    exec (.identify (beBytes 4 f.toNat)) s = .next (s.identifyDisc f) := by
  simp only [exec, execIdentify, readFingerprint_beBytes, State.commanded_running _ _ _ running]

theorem findRecord_isSome (l : List ResumeRecord) (f : Fingerprint) :
    (findRecord l f).isSome = l.any (fun r => r.fingerprint == f) := by
  rw [findRecord, List.isSome_find?]

section
variable {s : State} (f : Fingerprint)

/-- An IDENTIFY accepted where no resume is to be decided (R171, R174). -/
theorem State.identifyDisc_accepted (clear : s.tray.pendingFlag = false) (idle : s.out.play = .idle)
    (tray : s.tray.state = .closed ∨ s.tray.state = .awaitId) : s.identifyDisc f
      = { s with tray := { s.tray with fingerprint := some f, state := .closed } }.post
          (.result .command 0x09#8 .done (s.tray.records.any (fun r => r.fingerprint == f))) := by
  simp only [identifyDisc, clear, idle, tray.symm, findRecord_isSome, reduceCtorEq, and_false, and_true, if_true,
    if_false]
  rfl

/-- An IDENTIFY answered with BUSY (R174). -/
theorem State.identifyDisc_busy (busy : s.tray.pendingFlag = true ∨ s.tray.state = .fading ∨ s.tray.state = .opened
      ∨ s.tray.state = .settling ∨ (s.tray.state = .closed ∧ s.out.play ≠ .idle)
      ∨ (s.tray.state = .awaitId ∧ s.out.play ≠ .idle ∧ s.out.play ≠ .trayHold)) :
    s.identifyDisc f = s.post (.result .command 0x09#8 .busy false) := by
  rcases busy with pending | fading | opened | settling | ⟨closed, play⟩ | ⟨waits, idle, hold⟩
  · simp [identifyDisc, pending, answer]
  · simp [identifyDisc, fading, answer]
  · simp [identifyDisc, opened, answer]
  · simp [identifyDisc, settling, answer]
  · simp [identifyDisc, closed, play, answer]
  · simp [identifyDisc, waits, idle, hold, answer]

end

/-- Settles O28: accepted in IDLE, or one of the cases of BUSY. -/
theorem identifyNamesTheDisc : Obligations.IdentifyNamesTheDisc := by
  intro s f running params known
  rw [exec_identify running]
  exact ⟨fun clear idle tray => congrArg _ (s.identifyDisc_accepted f clear idle tray),
    fun busy => congrArg _ (s.identifyDisc_busy f busy)⟩

end Sys2Proof.Machine
end

section
/-! SUPPORT. The Report Queue by level (spec/10). -/

namespace Sys2Proof.Machine

/-! ### The placement of a report (R190, R191) -/

/-- A TRAY report is of level 7 (R193). -/
theorem Report.level_of_isTray {r : Report} (tray : r.isTray = true) : r.level = 7 := by
  cases r with
  | tray => rfl
  | _ => cases tray

/-- A report that the mask does not discard is placed (R190). -/
theorem State.post_placed {s : State} {r : Report} (kept : s.table.config.mask < r.level ∨ r.level = 7) :
    s.post r = { s with reports := placeReport s.reports r } :=
  if_neg fun discarded => kept.elim (Nat.not_lt.2 discarded.1) discarded.2

section
variable {r : Report} {front back : List ReportEntry} {e : ReportEntry}

/-- Entries without a TRAY report among them are left as they are by the update (R191). -/
theorem map_update_of_no_tray {q : List ReportEntry} (absent : q.any (fun x => x.report.isTray) = false) :
    q.map (fun x => if x.report.isTray then { x with report := r } else x) = q := by
  rw [List.any_eq_false] at absent
  exact (List.map_congr_left fun x held => if_neg (absent x held)).trans q.map_id

/-- The TRAY entry that waits is updated in its place (R191). -/
theorem placeReport_update (tray : r.isTray = true) (waits : e.report.isTray = true)
    (before : front.any (fun x => x.report.isTray) = false) (after : back.any (fun x => x.report.isTray) = false) :
    placeReport (front ++ e :: back) r = front ++ { e with report := r } :: back := by
  have updated : (r.isTray && (front ++ e :: back).any fun x => x.report.isTray) = true := by
    simp [tray, waits]
  rw [placeReport, if_pos updated, List.map_append, List.map_cons, map_update_of_no_tray before,
    map_update_of_no_tray after, if_pos waits]

section
variable {q : List ReportEntry} (new : r.isTray = true → q.any (fun x => x.report.isTray) = false)
include new

/-- A report that updates no TRAY entry is placed by the room and by its level (R191). -/
theorem placeReport_new : placeReport q r = if q.length < 16 then q ++ [⟨r, false⟩]
    else if r.level < 7 then markNewest q else dropNewestBelow7 q ++ [⟨r, true⟩] :=
  if_neg fun updates => by
    obtain ⟨tray, waits⟩ := Bool.and_eq_true_iff.1 updates
    rw [new tray] at waits
    cases waits

theorem placeReport_joins (room : q.length < 16) : placeReport q r = q ++ [⟨r, false⟩] := by
  rw [placeReport_new new, if_pos room]

theorem placeReport_drops_newest (level : r.level = 7) (full : 16 ≤ q.length) :
    placeReport q r = dropNewestBelow7 q ++ [⟨r, true⟩] := by
  rw [placeReport_new new, if_neg (Nat.not_lt.2 full), if_neg (Nat.not_lt.2 level.ge)]

end

theorem placeReport_marks_newest {q : List ReportEntry} (level : r.level < 7) (full : 16 ≤ q.length) :
    placeReport q r = markNewest q := by
  have new (tray : r.isTray = true) : q.any (fun x => x.report.isTray) = false :=
    absurd (Report.level_of_isTray tray) level.ne
  rw [placeReport_new new, if_neg (Nat.not_lt.2 full), if_pos level]

/-- The OVERRUN mark stands on the last entry alone (R191). -/
theorem markNewest_append (front : List ReportEntry) (e : ReportEntry) :
    markNewest (front ++ [e]) = front ++ [{ e with overrun := true }] := by
  simp [markNewest, List.modify_eq_take_cons_drop]

/-- The newest entry below level 7 is the one with only entries of level 7 after it (R191). -/
theorem dropNewestBelow7_append (below : e.report.level < 7) (after : ∀ x ∈ back, x.report.level = 7) :
    dropNewestBelow7 (front ++ e :: back) = front ++ back := by
  have skipped : ∀ x ∈ back.reverse, ¬ (decide (x.report.level < 7)) = true := fun x held => by
    simp [after x (List.mem_reverse.1 held)]
  rw [dropNewestBelow7, List.reverse_append, List.reverse_cons, List.append_assoc, List.eraseP_append_right _ skipped,
    List.singleton_append, List.eraseP_cons_of_pos (by exact decide_eq_true below), List.reverse_append,
    List.reverse_reverse, List.reverse_reverse]

end

/-- Settles O14: the mask first, then the placement: an update, room at the end, or a full queue by level. -/
theorem reportQueueTakesReportsByLevel : Obligations.ReportQueueTakesReportsByLevel := by
  intro s r
  refine ⟨State.post_masked, fun kept => ?_⟩
  rw [State.post_placed kept]
  refine ⟨fun front back e tray waits before after held => ?_, fun new room => ?_, fun front e level full held => ?_,
    fun front back e level full new below after held => ?_⟩
  · rw [held, placeReport_update tray waits before after]
  · rw [placeReport_joins new room]
  · rw [placeReport_marks_newest level full, held, markNewest_append]
  · rw [placeReport_drops_newest new level full, held, dropNewestBelow7_append below after]

end Sys2Proof.Machine
end

section
/-! SUPPORT. Frames of a wrong length or an unknown code, and QUERY of a table (spec/10). -/

namespace Sys2Proof.Machine

/-! ### The lengths of parameters and records (R192) -/

section
variable {b : List Byte}

theorem readPlay_none (short : b.length ≠ 1) (long : b.length ≠ 4) : readPlay b = none := by
  rw [readPlay.eq_def]
  split
  · exact absurd rfl short
  · exact absurd rfl long
  · rfl

theorem readOne_none (length : b.length ≠ 1) : readOne b = none := by
  rw [readOne.eq_def]
  split
  · exact absurd rfl length
  · rfl

theorem readFingerprint_none (length : b.length ≠ 4) : readFingerprint b = none := by
  rw [readFingerprint.eq_def]
  split
  · exact absurd rfl length
  · rfl

theorem readSegment_none (length : b.length ≠ 9) : readSegment b = none := by
  rw [readSegment.eq_def]
  split
  · exact absurd rfl length
  · rfl

theorem readProfile_none (length : b.length ≠ 6) : readProfile b = none := by
  rw [readProfile.eq_def]
  split
  · exact absurd rfl length
  · rfl

theorem readConfig_none (length : b.length ≠ 17) : readConfig b = none := by
  rw [readConfig.eq_def]
  split
  · exact absurd rfl length
  · rfl

theorem readResume_none (length : b.length ≠ 14) : readResume b = none := by
  rw [readResume.eq_def]
  split
  · exact absurd rfl length
  · rfl

end

/-! ### Malformed frames (R180, R183) -/

/-- A COMMAND of a form the command does not take (R180). -/
theorem State.commanded_malformed (s t : State) (code : Byte) (running : s.out.play ≠ .halted) :
    s.commanded code false t = s.post (.result .command code .invalid false) := by
  rw [State.commanded, if_neg running, if_neg Bool.false_ne_true, State.answer]

/-- A COMMAND without parameters that was sent with some (R180). -/
theorem State.commanded_extra (s t : State) (code : Byte) {b : List Byte} (extra : b ≠ [])
    (running : s.out.play ≠ .halted) :
    s.commanded code b.isEmpty t = s.post (.result .command code .invalid false) := by
  rw [List.isEmpty_eq_false_iff.2 extra, s.commanded_malformed t code running]

/-- A TABLE load of a wrong length (R183). -/
theorem State.loaded_malformed (s t : State) (format : Byte) (running : s.out.play ≠ .halted) :
    s.loaded format false t = s.post (.result .table format .format false) := by
  rw [State.loaded, if_neg running, if_neg Bool.false_ne_true, State.answer]

theorem exec_softReset_extra {b : List Byte} (extra : b ≠ []) (s : State) :
    exec (.softReset b) s = .next (s.post (.result .command 0x0D#8 .invalid false)) := by
  rw [exec, execSoftReset, List.isEmpty_eq_false_iff.2 extra, if_neg Bool.false_ne_true, State.answer]

section
variable {s : State} {b : List Byte} (running : s.out.play ≠ .halted)
include running

theorem exec_unknownCommandCode (unknown : unknownCode b) :
    exec (.unknownCommandCode b) s = .next (s.post (.result .command (b.headD 0x00#8) .invalid false)) := by
  rw [exec, execUnknownCommandCode, unknown.2, if_neg Bool.false_ne_true, State.commanded_malformed _ _ _ running]

theorem exec_unknownTableFormat (unknown : unknownFormat b) :
    exec (.unknownTableFormat b) s = .next (s.post (.result .table (b.headD 0x00#8) .format false)) := by
  rw [exec, execUnknownTableFormat, unknown.2, if_neg Bool.false_ne_true, State.loaded_malformed _ _ _ running]

end

/-- Settles O17: no form is read from a wrong length, and what has no form is refused by the one test of every frame. -/
theorem malformedFramesChangeNothing : Obligations.MalformedFramesChangeNothing := by
  intro s b
  refine ⟨fun extra => exec_softReset_extra extra s, fun running => ?_⟩
  have refused (code : Byte) := s.commanded_malformed s code running
  have unloaded (format : Byte) := s.loaded_malformed s format running
  refine ⟨fun short long => ?_, fun extra => ?_, fun length => ?_, fun length => ?_, exec_unknownCommandCode running,
    fun length => ?_, fun length => ?_, fun length => ?_, fun length => ?_, exec_unknownTableFormat running⟩
  · rw [exec, execPlay, readPlay_none short long]; exact congrArg _ (refused _)
  · have parameterless (t : State) (code : Byte) := s.commanded_extra t code extra running
    exact ⟨congrArg _ (parameterless _ _), congrArg _ (parameterless _ _), congrArg _ (parameterless _ _),
      congrArg _ (parameterless _ _), congrArg _ (parameterless _ _), congrArg _ (parameterless _ _)⟩
  · have unread := readOne_none length
    refine ⟨?_, ?_, ?_⟩
    · rw [exec, execSetLevel, unread]; exact congrArg _ (refused _)
    · rw [exec, execSetStop, unread]; exact congrArg _ (refused _)
    · rw [exec, execSetRepeat, unread]; exact congrArg _ (refused _)
  · rw [exec, execIdentify, readFingerprint_none length]; exact congrArg _ (refused _)
  · rw [exec, execSegmentLoad, readSegment_none length]; exact congrArg _ (unloaded _)
  · rw [exec, execProfileLoad, readProfile_none length]; exact congrArg _ (unloaded _)
  · rw [exec, execConfigLoad, readConfig_none length]; exact congrArg _ (unloaded _)
  · rw [exec, execResumeLoad, readResume_none length]; exact congrArg _ (unloaded _)

/-! ### The records of the tables as bytes (R181, R192) -/

theorem PlayEntry.bytes_eq (e : PlayEntry) (i : Byte) : e.bytes i = i :: (beBytes 3 e.first ++ beBytes 3 e.last
    ++ [byteOf e.profile.val, byteOf ((if e.valid then 1 else 0) + (if e.eol then 2 else 0))]) := by
  cases valid : e.valid <;> cases eol : e.eol <;> simp [bytes, valid, eol]

theorem Profile.bytes_eq (p : Profile) (i : Byte) : p.bytes i = [i, byteOf p.rampLimit,
    (match p.longAction with | .fade => 0x00#8 | .mute => 0x01#8 | .drop => 0x02#8), byteOf p.fadeCode,
    (if p.repairEnable then 0x01#8 else 0x00#8), byteOf p.repairLead] := by
  rw [bytes, flagByte]
  cases p.longAction <;> rfl

theorem ConfigRecord.bytes_eq (c : ConfigRecord) : c.bytes =
    [byteOf (c.depth / 256), byteOf c.depth, byteOf c.highMargin, byteOf (c.refill / 256), byteOf c.refill,
      byteOf c.start, byteOf c.window, byteOf c.runIn, byteOf c.retryLimit, byteOf c.skipAhead,
      byteOf c.abandonLimit, byteOf c.attemptLimit, byteOf c.watchdogCode, byteOf c.settle, byteOf c.mask,
      (match c.positionMode with | .off => 0x00#8 | .segment => 0x01#8 | .periodic => 0x02#8),
      (match c.sensitivity with | .edge => 0x00#8 | .edgeAndLevel => 0x01#8)] := by
  rw [bytes, beBytes_two_eq, beBytes_two_eq]
  cases c.positionMode <;> cases c.sensitivity <;> rfl

theorem ResumeRecord.bytes_eq (r : ResumeRecord) : r.bytes =
    [byteOf (r.fingerprint.toNat / 16777216), byteOf (r.fingerprint.toNat / 65536),
      byteOf (r.fingerprint.toNat / 256), byteOf r.fingerprint.toNat, byteOf (r.signature.toNat / 256),
      byteOf r.signature.toNat, byteOf r.position.segment.val, byteOf (r.position.address / 65536),
      byteOf (r.position.address / 256), byteOf r.position.address, byteOf (r.position.offset / 256),
      byteOf r.position.offset, byteOf r.level, if r.repeatFlag then 0x01#8 else 0x00#8] := by
  rw [bytes, beBytes_four_eq, beBytes_two_eq, beBytes_three_eq, beBytes_two_eq]
  rfl

/-! ### QUERY of a table (R181) -/

theorem knownFormat_iff (f : Byte) : knownFormat f = true ↔ 0x11 ≤ f.toNat ∧ f.toNat ≤ 0x14 := decide_eq_true_iff

section
variable (s : State)

theorem exec_queryTable (params : List Byte) : exec (.queryTable params) s = .next (s.query params) := rfl

section
variable {selector : Byte}

/-- The selector of a table is not that of STATUS (R181). -/
theorem ne_zero_of_knownFormat (known : knownFormat selector = true) : selector ≠ 0x00#8 := by
  rintro rfl
  cases known

theorem State.query_held (known : knownFormat selector = true) {i : Byte} {record : Option (List Byte)}
    (held : s.heldRecord selector i = some record) :
    s.query [selector, i] = s.post (.tableReply selector i record) := by
  simp only [query, if_neg (ne_zero_of_knownFormat known), if_pos known, held]

theorem State.query_beyond (known : knownFormat selector = true) {i : Byte} (beyond : s.heldRecord selector i = none) :
    s.query [selector, i] = s.post (.result .command 0x0C#8 .invalid false) := by
  simp only [query, if_neg (ne_zero_of_knownFormat known), if_pos known, beyond, answer]

theorem State.query_no_index (known : knownFormat selector = true) :
    s.query [selector] = s.post (.result .command 0x0C#8 .invalid false) := by
  simp only [query, if_neg (ne_zero_of_knownFormat known), if_pos known, answer]

theorem State.query_unknown (other : selector ≠ 0x00#8) (unknown : ¬ knownFormat selector = true) (i : Byte) :
    s.query [selector, i] = s.post (.result .command 0x0C#8 .format false)
    ∧ s.query [selector] = s.post (.result .command 0x0C#8 .format false) := by
  simp only [query, if_neg other, if_neg unknown, answer, and_self]

end

/-! ### The record held at an index (R181) -/

section
variable {i : Byte}

theorem State.heldRecord_segment {seg : SegmentIndex} (named : i.toNat = seg.val) :
    s.heldRecord 0x11#8 i = some (some (s.table.playList[seg].bytes i)) :=
  congrArg (Option.map _) (segmentOf_of_eq named)

theorem State.heldRecord_segment_beyond (beyond : 64 ≤ i.toNat) : s.heldRecord 0x11#8 i = none :=
  congrArg (Option.map _) (segmentOf_none beyond)

theorem State.heldRecord_profile {index : ProfileIndex} (named : i.toNat = index.val) :
    s.heldRecord 0x12#8 i = some (some (s.table.profiles[index].bytes i)) :=
  congrArg (Option.map _) (profileIndexOf_of_eq named)

theorem State.heldRecord_profile_beyond (beyond : 4 ≤ i.toNat) : s.heldRecord 0x12#8 i = none :=
  congrArg (Option.map _) (profileIndexOf_none beyond)

theorem State.heldRecord_config (i : Byte) : s.heldRecord 0x13#8 i = some (some s.table.config.bytes) := rfl

theorem State.heldRecord_resume (inside : i.toNat < 8) :
    s.heldRecord 0x14#8 i = some (s.tray.records[i.toNat]?.map ResumeRecord.bytes) := if_pos inside

theorem State.heldRecord_resume_beyond (beyond : 8 ≤ i.toNat) : s.heldRecord 0x14#8 i = none :=
  if_neg (Nat.not_lt.2 beyond)

end
end

/-- Settles O31: by the selector; the record held at the index as its bytes, or the refusal of the form. -/
theorem queryTableReadsTheHeldRecord : Obligations.QueryTableReadsTheHeldRecord := by
  intro s i
  simp only [exec_queryTable]
  refine ⟨fun seg named => ?_, fun index named => ?_, ?_, fun r inside held => ?_, fun inside empty => ?_,
    fun beyond => ?_, fun beyond => ?_, fun beyond => ?_, fun selector other outside => ?_, fun a b c rest => rfl,
    fun selector low high => ?_, rfl⟩
  · have held := s.heldRecord_segment named
    rw [PlayEntry.bytes_eq] at held
    exact congrArg _ (s.query_held rfl held)
  · have held := s.heldRecord_profile named
    rw [Profile.bytes_eq] at held
    exact congrArg _ (s.query_held rfl held)
  · have held := s.heldRecord_config i
    rw [ConfigRecord.bytes_eq] at held
    exact congrArg _ (s.query_held rfl held)
  · have present := s.heldRecord_resume inside
    rw [held, Option.map_some, ResumeRecord.bytes_eq] at present
    exact congrArg _ (s.query_held rfl present)
  · have absent := s.heldRecord_resume inside
    rw [empty, Option.map_none] at absent
    exact congrArg _ (s.query_held rfl absent)
  · exact congrArg _ (s.query_beyond rfl (s.heldRecord_segment_beyond beyond))
  · exact congrArg _ (s.query_beyond rfl (s.heldRecord_profile_beyond beyond))
  · exact congrArg _ (s.query_beyond rfl (s.heldRecord_resume_beyond beyond))
  · have unknown : ¬ knownFormat selector = true := by rw [knownFormat_iff]; omega
    obtain ⟨indexed, alone⟩ := s.query_unknown other unknown i
    exact ⟨congrArg _ indexed, congrArg _ alone⟩
  · exact congrArg _ (s.query_no_index ((knownFormat_iff selector).2 ⟨low, high⟩))

end Sys2Proof.Machine
end

section
/-! SUPPORT. Every operation leaves the queue of commands as it was (log 1): the fill, the output, the tray and the
commands, in the order of their definitions, and from them every row. -/

namespace Sys2Proof.Machine

/-! ### Requests, consumes and flushes: record updates that do not name the queue -/

section
variable (s : State)

@[simp] theorem State.answer_pending (source : FrameSource) (code : Byte) (outcome : ResultCode) (present : Bool) :
    (s.answer source code outcome present).pending = s.pending := s.post_pending _
@[simp] theorem State.done_pending (code : Byte) : (s.done code).pending = s.pending := s.post_pending _
@[simp] theorem State.postTray_pending : s.postTray.pending = s.pending := s.post_pending _
@[simp] theorem State.cutOff_pending : s.cutOff.pending = s.pending := rfl
@[simp] theorem State.fixedFade_pending (n : Nat) : (s.fixedFade n).pending = s.pending := rfl
@[simp] theorem State.followerFadeIn_pending (p : Profile) : (s.followerFadeIn p).pending = s.pending := rfl
@[simp] theorem State.afterCutFadeIn_pending : s.afterCutFadeIn.pending = s.pending := rfl
@[simp] theorem State.requestPause_pending : s.requestPause.pending = s.pending := rfl
@[simp] theorem State.flush_pending : s.flush.pending = s.pending := rfl
@[simp] theorem State.upset_pending (changes : List (Nat × Byte)) : (s.upset changes).pending = s.pending := rfl

@[simp] theorem State.refreshStep_pending : s.refreshStep.pending = s.pending := by
  rw [refreshStep]; split <;> rfl

@[simp] theorem State.consume_pending : s.consume.pending = s.pending := by
  rw [consume.eq_def]; split <;> rfl

/-! ### Seeks, crossings and abandons -/

@[simp] theorem State.issue_pending (r : Reason) (f : Option FaultRef) (n : Nat) :
    (s.issue r f n).pending = s.pending := rfl
@[simp] theorem State.issueNew_pending (r : Reason) (f : Option FaultRef) :
    (s.issueNew r f).pending = s.pending := rfl
@[simp] theorem State.leaveRecovery_pending (f : FillState) : (s.leaveRecovery f).pending = s.pending := rfl
@[simp] theorem State.fillStop_pending : s.fillStop.pending = s.pending := rfl
@[simp] theorem State.dropRecovery_pending : s.dropRecovery.pending = s.pending := rfl
@[simp] theorem State.moveTo_pending (n : SegmentIndex) (cue : Bool) : (s.moveTo n cue).pending = s.pending := rfl
@[simp] theorem State.appendRun_pending (first : Addr) (k : Nat) : (s.appendRun first k).pending = s.pending := rfl

@[simp] theorem State.raiseCause_pending (r : Reason) (f : Option FaultRef) :
    (s.raiseCause r f).pending = s.pending := by
  rw [raiseCause]
  split
  · split
    · split <;> simp
    · simp
  · simp

@[simp] theorem State.refillIfDue_pending : s.refillIfDue.pending = s.pending := by
  rw [refillIfDue]; split <;> simp

@[simp] theorem State.enterPausedFull_pending : s.enterPausedFull.pending = s.pending := by simp [enterPausedFull]

@[simp] theorem State.enterEnd_pending : s.enterEnd.pending = s.pending := by
  rw [enterEnd]; split <;> simp

@[simp] theorem State.crossByAppend_pending : s.crossByAppend.pending = s.pending := by
  rw [crossByAppend]
  split
  · simp
  · dsimp only
    split <;> simp

@[simp] theorem State.giveUp_pending : s.giveUp.pending = s.pending := by
  rw [giveUp]
  split <;> simp

@[simp] theorem State.continueAbandon_pending (last : Addr) : (s.continueAbandon last).pending = s.pending := by
  rw [continueAbandon]
  dsimp only
  split
  · split <;> simp
  · split <;> simp

@[simp] theorem State.abandonAhead_pending : s.abandonAhead.pending = s.pending := by
  rw [abandonAhead]
  dsimp only
  split <;> simp

@[simp] theorem State.abandonRecovery_pending : s.abandonRecovery.pending = s.pending := by
  rw [abandonRecovery]; split <;> simp

@[simp] theorem State.retryRecovery_pending : s.retryRecovery.pending = s.pending := by
  rw [retryRecovery]
  dsimp only
  split
  · split <;> simp
  · rfl

@[simp] theorem State.evaluateRepair_pending : s.evaluateRepair.pending = s.pending := by
  rw [evaluateRepair]
  split
  · split <;> simp
  · rfl

/-! ### Arrivals and answers -/

@[simp] theorem State.admitFault_pending (p : Nat) : (s.admitFault p).pending = s.pending := by
  rw [admitFault]
  split
  · rfl
  · dsimp only
    split <;> rfl

@[simp] theorem State.countAppend_pending : s.countAppend.pending = s.pending := by
  rw [countAppend]; split <;> rfl

@[simp] theorem State.moveOn_pending : s.moveOn.pending = s.pending := by
  rw [moveOn]; split <;> simp

@[simp] theorem State.appendSteps_pending (p : Nat) (q : Quality) : (s.appendSteps p q).pending = s.pending := by
  rw [appendSteps]; split <;> simp

@[simp] theorem State.highWaterTest_pending : s.highWaterTest.pending = s.pending := by
  rw [highWaterTest]; split <;> simp

@[simp] theorem State.pushBlock_pending (a : Arrival) : (s.pushBlock a).pending = s.pending := rfl

@[simp] theorem State.appendAtE_pending (a : Arrival) : (s.appendAtE a).pending = s.pending := by
  rw [appendAtE]
  split
  · simp
  · split <;> simp

@[simp] theorem State.relockAtE_pending (a : Arrival) (v : Vote) : (s.relockAtE a v).pending = s.pending := by
  rw [relockAtE.eq_def]
  split
  · split <;> simp
  · simp

@[simp] theorem State.replaceAt_pending (i : Nat) (slot : Slot) (a : Arrival) :
    (s.replaceAt i slot a).pending = s.pending := by simp [replaceAt]

@[simp] theorem State.overlap_pending (addr : Addr) (a : Arrival) : (s.overlap addr a).pending = s.pending := by
  rw [overlap]
  split
  · rfl
  · split
    · rfl
    · split <;> simp

@[simp] theorem State.discontinuity_pending (addr : Addr) (v : Vote) :
    (s.discontinuity addr v).pending = s.pending := by simp [discontinuity]

@[simp] theorem State.relockArrival_pending (a : Arrival) : (s.relockArrival a).pending = s.pending := by
  rw [relockArrival]
  split
  · simp
  · split
    · simp
    · split <;> simp

@[simp] theorem State.trackArrival_pending (a : Arrival) : (s.trackArrival a).pending = s.pending := by
  rw [trackArrival]
  split
  · rfl
  · split
    · simp
    · split
      · simp
      · split <;> simp

@[simp] theorem State.restArrival_pending (a : Arrival) : (s.restArrival a).pending = s.pending := by
  rw [restArrival]
  split
  · rfl
  · split <;> simp

@[simp] theorem State.arrive_pending (a : Arrival) : (s.arrive a).pending = s.pending := by
  rw [arrive, evaluateRepair_pending]
  cases s.fill.state <;> simp

@[simp] theorem State.answerMatched_pending (status : SeekStatus) :
    (s.answerMatched status).pending = s.pending := by
  cases status with
  | locked => rfl
  | failed => exact s.retryRecovery_pending

@[simp] theorem State.seekAnswer_pending (tag : Tag) (status : SeekStatus) :
    (s.seekAnswer tag status).pending = s.pending := by
  rw [seekAnswer]; split <;> simp

/-! ### The head of each block, block boundaries and the sample period -/

@[simp] theorem State.halt_pending (pos : Position) (kind : PlanKind) : (s.halt pos kind).pending = s.pending := by
  simp [halt]

@[simp] theorem State.enterSegment_pending (slot : Slot) (offset : Nat) :
    (s.enterSegment slot offset).pending = s.pending := by
  rw [enterSegment]
  split
  · rfl
  · dsimp only
    split <;> simp

@[simp] theorem State.adopt_pending (plan : Plan) (slot : Slot) (first : FirstSlot) (fallback : Bool) :
    (s.adopt plan slot first fallback).pending = s.pending := by simp [adopt]

@[simp] theorem State.beginPlan_pending (step : Option Nat) : (s.beginPlan step).pending = s.pending := by
  cases step <;> rfl

@[simp] theorem State.planRun_pending (slot : Slot) (offset : Nat) (first : FirstSlot) :
    (s.planRun slot offset first).pending = s.pending := by
  rw [planRun]
  dsimp only
  split
  · split <;> simp
  · simp

@[simp] theorem State.takeAfterCut_pending : s.takeAfterCut.pending = s.pending := by
  rw [takeAfterCut]; split <;> rfl

@[simp] theorem State.becomeHead_pending : s.becomeHead.pending = s.pending := by
  rw [becomeHead]
  split
  · rfl
  · dsimp only
    split
    · simp
    · split
      · split <;> simp
      · split <;> simp
      · simp
      · simp

@[simp] theorem State.starve_pending : s.starve.pending = s.pending := by simp [starve]

@[simp] theorem State.endProgram_pending : s.endProgram.pending = s.pending := by simp [endProgram]

@[simp] theorem State.boundaryTest_pending : s.boundaryTest.pending = s.pending := by
  rw [boundaryTest]
  split
  · rfl
  · split
    · split <;> simp
    · rfl

@[simp] theorem State.planEnd_pending (kind : PlanKind) : (s.planEnd kind).pending = s.pending := by
  rw [planEnd]
  split
  · simp
  · split
    · split <;> simp
    · simp

@[simp] theorem State.lateCut_pending (p : Plan) : (s.lateCut p).pending = s.pending := by
  rw [lateCut]; split <;> rfl

@[simp] theorem State.boundary_pending : s.boundary.pending = s.pending := by
  rw [boundary]
  split
  · simp
  · dsimp only
    split
    · simp
    · split <;> simp

@[simp] theorem State.dropRun_pending (n : Nat) (s : State) : (State.dropRun n s).pending = s.pending := by
  induction n generalizing s with
  | zero => rfl
  | succ n ih =>
    rw [dropRun]
    split
    · rfl
    · simp [ih]

@[simp] theorem State.dropPlan_pending : s.dropPlan.pending = s.pending := by
  rw [dropPlan]; split <;> simp

@[simp] theorem State.requestCut_pending (off : Nat) : (s.requestCut off).pending = s.pending := by
  rw [requestCut]
  split
  · rfl
  · split
    · dsimp only
      split <;> rfl
    · rfl

@[simp] theorem State.handOn_pending : s.handOn.2.pending = s.pending := by
  rw [handOn]
  split
  · split
    · dsimp only
      split
      · simp
      · split <;> simp
    · rfl
  · split <;> rfl

@[simp] theorem State.sound_pending (pair : Pair) : (s.sound pair).pending = s.pending := rfl

@[simp] theorem State.period_pending : s.period.pending = s.pending := by
  simp [period, apply_ite State.pending]

/-! ### The tray -/

@[simp] theorem State.save_pending : s.save.pending = s.pending := rfl
@[simp] theorem State.completeStop_pending : s.completeStop.pending = s.pending := rfl
@[simp] theorem State.startAt_pending (pos : Position) (r : Reason) : (s.startAt pos r).pending = s.pending := rfl
@[simp] theorem State.resumeFrom_pending (r : ResumeRecord) : (s.resumeFrom r).pending = s.pending := rfl

@[simp] theorem State.openFromClosed_pending : s.openFromClosed.pending = s.pending := by
  have saved (t : State) : (if t.gain.fade = 0 then t.save else t).pending = t.pending := by split <;> rfl
  rw [openFromClosed]
  cases s.out.play with
  | playing | pausing | starved | priming | paused => exact saved _
  | stopping | idle | halted | trayHold => rfl

@[simp] theorem State.takeOpenEdge_pending : s.takeOpenEdge.pending = s.pending := by
  rw [takeOpenEdge]
  split
  · rfl
  · rw [postTray_pending]
    split <;> simp

@[simp] theorem State.takeCloseEdge_pending : s.takeCloseEdge.pending = s.pending := by
  rw [takeCloseEdge]
  split
  · rfl
  · rw [postTray_pending]
    split <;> simp

@[simp] theorem State.decideResume_pending (f : Fingerprint) : (s.decideResume f).pending = s.pending := by
  rw [decideResume, post_pending]
  split <;> simp

/-! ### Events -/

@[simp] theorem State.takePeriodEnd_pending : s.takePeriodEnd.pending = s.pending := by
  rw [takePeriodEnd]; split <;> rfl

@[simp] theorem State.takeExpiry_pending : s.takeExpiry.pending = s.pending := by
  rw [takeExpiry]
  split
  · dsimp only
    split
    · rfl
    · split <;> simp
  · rfl

@[simp] theorem State.takeSettleEnd_pending : s.takeSettleEnd.pending = s.pending := by
  rw [takeSettleEnd]
  split
  · dsimp only
    split <;> rfl
  · rfl

@[simp] theorem State.takePeriodicPosition_pending : s.takePeriodicPosition.pending = s.pending := by
  rw [takePeriodicPosition]
  split
  · dsimp only
    split <;> simp
  · rfl

@[simp] theorem State.takeDropped_pending : s.takeDropped.pending = s.pending := by
  rw [takeDropped]; split <;> simp

@[simp] theorem State.takePausedEntry_pending : s.takePausedEntry.pending = s.pending := by
  rw [takePausedEntry]; split <;> rfl

@[simp] theorem State.takeStopCompletion_pending : s.takeStopCompletion.pending = s.pending := by
  rw [takeStopCompletion]; split <;> rfl

@[simp] theorem State.takeSaveStep_pending : s.takeSaveStep.pending = s.pending := by
  rw [takeSaveStep]; split <;> rfl

@[simp] theorem State.takeStartTest_pending : s.takeStartTest.pending = s.pending := by
  rw [takeStartTest]; split <;> rfl

@[simp] theorem State.takeStarvedRecovery_pending : s.takeStarvedRecovery.pending = s.pending := by
  rw [takeStarvedRecovery]; split <;> rfl

@[simp] theorem State.takeRefill_pending : s.takeRefill.pending = s.pending := s.refillIfDue_pending

@[simp] theorem State.takePlaceholderRun_pending : s.takePlaceholderRun.pending = s.pending := by
  rw [takePlaceholderRun]
  split
  · rfl
  · split <;> simp

@[simp] theorem State.takeDue_pending : s.takeDue.pending = s.pending := by simp [takeDue]

/-! ### Commands -/

/-- A COMMAND leaves the queue where its handling does (R179, R180). -/
theorem State.commanded_pending {s t : State} (code : Byte) (form : Bool) (handled : t.pending = s.pending) :
    (s.commanded code form t).pending = s.pending := by
  rw [commanded]
  split
  · simp
  · split
    · exact handled
    · simp

@[simp] theorem State.playAt_pending (seg : Byte) (address : Option Addr) :
    (s.playAt seg address).pending = s.pending := by
  rw [playAt]
  split
  · simp
  · dsimp only
    split
    · simp
    · split <;> simp

@[simp] theorem State.pauseNow_pending : s.pauseNow.pending = s.pending := by
  rw [pauseNow]; split <;> simp

@[simp] theorem State.turnPlan_pending : s.turnPlan.pending = s.pending := by
  rw [turnPlan]
  split
  · rfl
  · split
    · split <;> rfl
    · split <;> rfl
    · rfl

@[simp] theorem State.resumePlay_pending : s.resumePlay.pending = s.pending := by
  simp [resumePlay, apply_ite State.pending]

@[simp] theorem State.takeHeldConsume_pending : s.takeHeldConsume.pending = s.pending := by
  rw [takeHeldConsume]; split <;> simp

@[simp] theorem State.resumeNow_pending : s.resumeNow.pending = s.pending := by
  rw [resumeNow]; split <;> simp

@[simp] theorem State.stopNow_pending : s.stopNow.pending = s.pending := by
  rw [stopNow]; split <;> simp

@[simp] theorem State.setStop_pending (index : Byte) : (s.setStop index).pending = s.pending := by
  rw [setStop]
  split
  · simp
  · split <;> simp

@[simp] theorem State.setRepeat_pending (value : Byte) : (s.setRepeat value).pending = s.pending := by
  rw [setRepeat]
  split
  · simp
  · split <;> simp

@[simp] theorem State.cueNow_pending : s.cueNow.pending = s.pending := by
  rw [cueNow]; split <;> simp

@[simp] theorem State.identifyDisc_pending (f : Fingerprint) : (s.identifyDisc f).pending = s.pending := by
  rw [identifyDisc]
  dsimp only
  split
  · simp
  · split
    · simp
    · split <;> simp

@[simp] theorem State.ackTray_pending : s.ackTray.pending = s.pending := by
  rw [ackTray]; split <;> simp

@[simp] theorem State.query_pending (params : List Byte) : (s.query params).pending = s.pending := by
  have status : s.queryStatus.pending = s.pending := post_pending _ _
  rw [query.eq_def]
  split
  · split
    · exact status
    · split <;> simp
  · split
    · simp
    · split
      · split <;> simp
      · simp
  · simp

/-! ### Table loads -/

/-- A TABLE load leaves the queue where its handling does (R179, R183). -/
theorem State.loaded_pending {s t : State} (format : Byte) (length : Bool) (handled : t.pending = s.pending) :
    (s.loaded format length t).pending = s.pending := by
  rw [loaded]
  split
  · simp
  · split
    · exact handled
    · simp

@[simp] theorem State.loadProfile_pending (i : ProfileIndex) (p : Profile) :
    (s.loadProfile i p).pending = s.pending := by
  rw [loadProfile]
  split <;> simp

end

/-! ### Every row -/

/-- What a row answers: a next state with the queue as it was (log 1). -/
def KeepsQueue (s : State) (e : Effect) : Prop := ∃ t, e = .next t ∧ t.pending = s.pending

section
variable (s : State)

/-! #### The link -/

theorem KeepsQueue.execRefusedForwardUnit (unit : List Byte) : KeepsQueue s (execRefusedForwardUnit unit s) := by
  refine ⟨_, rfl, ?_⟩
  split <;> simp

theorem KeepsQueue.execSector (f : SectorFrame) : KeepsQueue s (execSector f s) := by
  refine ⟨_, rfl, ?_⟩
  split
  · exact State.arrive_pending _ _
  · rfl

theorem KeepsQueue.execSeekSend : KeepsQueue s (execSeekSend s) := by
  refine ⟨_, rfl, ?_⟩
  split
  · split <;> rfl
  · rfl

theorem KeepsQueue.execReadPauseSend : KeepsQueue s (execReadPauseSend s) := by
  refine ⟨_, rfl, ?_⟩
  split <;> rfl

theorem KeepsQueue.execReportSend : KeepsQueue s (execReportSend s) := by
  refine ⟨_, rfl, ?_⟩
  split
  · split <;> rfl
  · rfl

/-! #### Commands -/

section
variable (params : List Byte)

theorem KeepsQueue.execPlay : KeepsQueue s (execPlay params s) := by
  refine ⟨_, rfl, ?_⟩
  split
  · exact State.commanded_pending _ _ (s.playAt_pending _ _)
  · exact State.commanded_pending _ _ rfl

theorem KeepsQueue.execSetLevel : KeepsQueue s (execSetLevel params s) := by
  refine ⟨_, rfl, ?_⟩
  split
  · exact State.commanded_pending _ _ (State.done_pending _ _)
  · exact State.commanded_pending _ _ rfl

theorem KeepsQueue.execSetStop : KeepsQueue s (execSetStop params s) := by
  refine ⟨_, rfl, ?_⟩
  split
  · exact State.commanded_pending _ _ (s.setStop_pending _)
  · exact State.commanded_pending _ _ rfl

theorem KeepsQueue.execSetRepeat : KeepsQueue s (execSetRepeat params s) := by
  refine ⟨_, rfl, ?_⟩
  split
  · exact State.commanded_pending _ _ (s.setRepeat_pending _)
  · exact State.commanded_pending _ _ rfl

theorem KeepsQueue.execIdentify : KeepsQueue s (execIdentify params s) := by
  refine ⟨_, rfl, ?_⟩
  split
  · exact State.commanded_pending _ _ (s.identifyDisc_pending _)
  · exact State.commanded_pending _ _ rfl

theorem KeepsQueue.execSoftReset : KeepsQueue s (execSoftReset params s) := by
  refine ⟨_, rfl, ?_⟩
  split
  · exact State.done_pending _ _
  · simp

theorem KeepsQueue.execUnknownCommandCode : KeepsQueue s (execUnknownCommandCode params s) := by
  refine ⟨_, rfl, ?_⟩
  split
  · rfl
  · exact State.commanded_pending _ _ rfl

end

/-! #### Table loads -/

section
variable (record : List Byte)

theorem KeepsQueue.execSegmentLoad : KeepsQueue s (execSegmentLoad record s) := by
  refine ⟨_, rfl, ?_⟩
  split
  · exact State.loaded_pending _ _ rfl
  · refine State.loaded_pending _ _ ?_
    split
    · simp
    · split <;> simp

theorem KeepsQueue.execProfileLoad : KeepsQueue s (execProfileLoad record s) := by
  refine ⟨_, rfl, ?_⟩
  split
  · exact State.loaded_pending _ _ rfl
  · refine State.loaded_pending _ _ ?_
    split <;> simp

theorem KeepsQueue.execConfigLoad : KeepsQueue s (execConfigLoad record s) := by
  refine ⟨_, rfl, ?_⟩
  split
  · exact State.loaded_pending _ _ rfl
  · refine State.loaded_pending _ _ ?_
    split
    · exact State.answer_pending _ _ _ _ _
    · simp

theorem KeepsQueue.execResumeLoad : KeepsQueue s (execResumeLoad record s) := by
  refine ⟨_, rfl, ?_⟩
  split
  · exact State.loaded_pending _ _ rfl
  · refine State.loaded_pending _ _ ?_
    split <;> simp

theorem KeepsQueue.execUnknownTableFormat : KeepsQueue s (execUnknownTableFormat record s) := by
  refine ⟨_, rfl, ?_⟩
  split
  · rfl
  · exact State.loaded_pending _ _ rfl

end
end

/-- Every row answers a next state with the queue as it was (log 1). -/
theorem KeepsQueue.exec (c : Instr) (s : State) : KeepsQueue s (exec c s) := by
  cases c with
  | hardReset line => exact ⟨_, rfl, rfl⟩
  | refusedForwardUnit unit => exact .execRefusedForwardUnit s unit
  | sector frame => exact .execSector s frame
  | seekDone tag status => exact ⟨_, rfl, s.seekAnswer_pending tag status⟩
  | play params => exact .execPlay s params
  | pause params => exact ⟨_, rfl, State.commanded_pending _ _ s.pauseNow_pending⟩
  | resume params => exact ⟨_, rfl, State.commanded_pending _ _ s.resumeNow_pending⟩
  | stop params => exact ⟨_, rfl, State.commanded_pending _ _ s.stopNow_pending⟩
  | setLevel params => exact .execSetLevel s params
  | setStop params => exact .execSetStop s params
  | setRepeat params => exact .execSetRepeat s params
  | cue params => exact ⟨_, rfl, State.commanded_pending _ _ s.cueNow_pending⟩
  | identify params => exact .execIdentify s params
  | ackTray params => exact ⟨_, rfl, State.commanded_pending _ _ s.ackTray_pending⟩
  | clearTimebase params => exact ⟨_, rfl, State.commanded_pending _ _ (State.done_pending _ _)⟩
  | queryStatus rest => exact ⟨_, rfl, s.query_pending _⟩
  | queryTable params => exact ⟨_, rfl, s.query_pending params⟩
  | softReset params => exact .execSoftReset s params
  | segmentLoad record => exact .execSegmentLoad s record
  | profileLoad record => exact .execProfileLoad s record
  | configLoad record => exact .execConfigLoad s record
  | resumeLoad record => exact .execResumeLoad s record
  | openEdge => exact ⟨_, rfl, s.takeOpenEdge_pending⟩
  | closeEdge => exact ⟨_, rfl, s.takeCloseEdge_pending⟩
  | samplePeriod upset => exact ⟨_, rfl, by simp⟩
  | blockPeriodEnd => exact ⟨_, rfl, s.takePeriodEnd_pending⟩
  | watchdogExpiry => exact ⟨_, rfl, s.takeExpiry_pending⟩
  | settleEnd => exact ⟨_, rfl, s.takeSettleEnd_pending⟩
  | periodicPosition => exact ⟨_, rfl, s.takePeriodicPosition_pending⟩
  | stopCompletion => exact ⟨_, rfl, s.takeStopCompletion_pending⟩
  | pausedEntry => exact ⟨_, rfl, s.takePausedEntry_pending⟩
  | saveStep => exact ⟨_, rfl, s.takeSaveStep_pending⟩
  | dropped upset => exact ⟨_, rfl, (s.upset upset).takeDropped_pending⟩
  | startTestPass => exact ⟨_, rfl, s.takeStartTest_pending⟩
  | starvedRecovery => exact ⟨_, rfl, s.takeStarvedRecovery_pending⟩
  | refill => exact ⟨_, rfl, s.takeRefill_pending⟩
  | placeholderRun => exact ⟨_, rfl, s.takePlaceholderRun_pending⟩
  | seekSend => exact .execSeekSend s
  | readPauseSend => exact .execReadPauseSend s
  | reportSend => exact .execReportSend s
  | reverseFrameEnd => exact ⟨_, rfl, rfl⟩
  | unknownCommandCode body => exact .execUnknownCommandCode s body
  | unknownTableFormat body => exact .execUnknownTableFormat s body

/-- Settles O2: row by row, by what its operations leave of the queue. -/
theorem noCommandStops : Obligations.NoCommandStops := KeepsQueue.exec

end Sys2Proof.Machine
end

section
/-! SUPPORT. The laws of the gain, the Report Queue, the Resume Table, the tray and the output, clause by clause. -/

namespace Sys2Proof.Machine

/-! ### The Gain Unit, the tray and the output -/

/-- The ranges of the Gain Unit (R133, R136, R138). -/
structure Gain.Ranged (g : Gain) : Prop where
  fade : g.fade ≤ Config.unity
  target : g.target = 0 ∨ g.target = Config.unity
  applied : g.applied ≤ 63
  requested : g.requested ≤ 63
  step : 8 ≤ g.step ∧ g.step ≤ 512

/-- TRAY_HOLD after its save step (R125, R168). -/
abbrev Parked (p : PlayState) (t : TrayState) : Prop := p = .trayHold ∧ t ≠ .fading

/-- The play states in which g is at 0 (R113). -/
abbrev Quiet (p : PlayState) (t : TrayState) : Prop :=
  p = .idle ∨ p = .priming ∨ p = .paused ∨ p = .halted ∨ Parked p t

/-- `TrayLaw` but for what it says of the store, the fill and the cursor. -/
structure Tray.Sound (tr : Tray) (p : PlayState) : Prop where
  high : tr.state = .closed ∨ tr.state = .settling ∨ tr.state = .awaitId → tr.line = .high
  low : tr.state = .opened → tr.line = .low
  fading : tr.state = .fading → p = .trayHold ∨ p = .stopping
  hold : p = .trayHold → tr.state ≠ .closed
  saved : tr.saved.isSome = true ↔ Parked p tr.state
  named : tr.fingerprint.isSome = true → tr.state = .closed ∨ tr.state = .fading
  edges : tr.edges ≤ 255

/-- The ranges of the Output Sequencer, with at most `n` sample periods counted (R112, R113, R134, R145). -/
structure Output.Ranged (n : Nat) (o : Output) : Prop where
  start : o.startOffset < Config.pairsPerBlock
  samples : o.samples ≤ n
  buffer : o.buffer = [] ∨ o.buffer.length = Config.pairsPerBlock
  steps : ∀ p ∈ o.plan, ∀ step ∈ p.fadeStep, 8 ≤ step ∧ step ≤ 512

/-- The plan's run is held (R141). -/
structure Plan.Held (p : Plan) (count : Nat) : Prop where
  more : 1 ≤ p.left
  inside : p.left ≤ p.runLength
  held : p.left ≤ count
  offset : p.firstOffset < Config.pairsPerBlock

/-- `ResumeLaw`, clause by clause (R172). -/
structure RecordsSound (l : List ResumeRecord) : Prop where
  size : l.length ≤ Config.resumeCapacity
  apart : l.Pairwise (fun x y => x.fingerprint ≠ y.fingerprint)
  ranges : ∀ r ∈ l, r.level ≤ 63 ∧ r.position.offset < Config.pairsPerBlock
    ∧ r.position.address < Config.addressCount

/-- `ReportLaw`, clause by clause: a HALTED report only where the part has `stopped` (R190, R191). -/
structure QueueSound (q : List ReportEntry) (stopped : Prop) : Prop where
  size : q.length ≤ Config.reportCapacity
  trays : q.countP (fun e => e.report.isTray) ≤ 1
  halts : q.countP (fun e => e.report.isHalted) ≤ 1
  only : q.any (fun e => e.report.isHalted) = true → stopped

/-! ### The laws of a state -/

/-- Every law but those that tie the cursor and the plan to the play state and the store: what holds between a consume
and what follows it. At most `n` sample periods are counted. -/
structure Loose (n : Nat) (s : State) : Prop extends Kept False s where
  gain : s.gain.Ranged
  target : s.out.play ≠ .playing → s.gain.target = 0
  silent : Quiet s.out.play s.tray.state → s.gain.fade = 0
  queue : QueueSound s.reports (s.out.play = .halted)
  records : RecordsSound s.tray.records
  tray : s.tray.Sound s.out.play
  output : s.out.Ranged n
  empty : Parked s.out.play s.tray.state → s.store.slots = [] ∧ s.fill.state = .stopped

/-- The cursor and the plan stand over held slots, as the play state has them; a finished block may still have to be
consumed. -/
structure Seated (n : Nat) (s : State) : Prop extends Loose n s where
  offset : s.out.cursor.offset < Config.pairsPerBlock
  held : s.out.play ≠ .halted → s.out.cursor ≠ .waiting → s.out.cursor ≠ .none → s.store.slots ≠ []
  idle : s.out.play = .idle → s.out.cursor = .none
  parked : Parked s.out.play s.tray.state → s.out.cursor = .none
  waits : s.out.play = .priming ∨ s.out.play = .starved → s.out.cursor = .waiting ∧ s.out.plan = none
  plan : ∀ p ∈ s.out.plan, s.out.play ≠ .halted → p.Held s.store.count

/-- The play states in which a finished block keeps its consume back (R122, R168). -/
abbrev Holds (p : PlayState) (t : TrayState) : Prop :=
  p = .paused ∨ p = .pausing ∨ p = .stopping ∨ (p = .trayHold ∧ t = .fading)

/-- All the laws, with at most `n` sample periods counted. -/
structure AllKept (n : Nat) (s : State) : Prop extends Seated n s where
  finished : s.out.cursor = .finished → s.gain.fade = 0 ∧ Holds s.out.play s.tray.state

theorem allKept_of_lawful {s : State} (h : Lawful s) : AllKept Config.pairsPerBlock s := by
  have kept : Kept False s := kept_of_lawful h nofun
  obtain ⟨-, -, -, -, ⟨fade, target, applied, requested, step, low, silent⟩, ⟨size, trays, halts, only⟩, -,
    ⟨records, apart, ranges⟩, ⟨high, opened, fading, hold, park, saved, named, edges⟩,
    ⟨start, samples, buffer, offset, finished, held, idle, waits, plan, steps⟩⟩ := h
  exact { kept with
    gain := ⟨fade, target, applied, requested, step⟩
    target := low
    silent := silent
    queue := ⟨size, trays, halts, only⟩
    records := ⟨records, apart, ranges⟩
    tray := ⟨high, opened, fading, hold, saved, named, edges⟩
    output := ⟨start, samples, buffer, steps⟩
    empty := fun parked => have ⟨empty, rest, _⟩ := park parked; ⟨empty, rest⟩
    offset := offset
    held := held
    idle := idle
    parked := fun parked => have ⟨_, _, away⟩ := park parked; away
    waits := waits
    plan := fun p hp live => have ⟨more, inside, held, first⟩ := plan p hp live; ⟨more, inside, held, first⟩
    finished := finished }

theorem AllKept.laws {s : State} (h : AllKept Config.pairsPerBlock s) :
    GainLaw s ∧ ReportLaw s ∧ TableLaw s ∧ ResumeLaw s ∧ TrayLaw s ∧ OutputLaw s :=
  ⟨⟨h.gain.fade, h.gain.target, h.gain.applied, h.gain.requested, h.gain.step, h.target, h.silent⟩,
    ⟨h.queue.size, h.queue.trays, h.queue.halts, h.queue.only⟩, h.tables,
    ⟨h.records.size, h.records.apart, h.records.ranges⟩,
    ⟨h.tray.high, h.tray.low, h.tray.fading, h.tray.hold,
      fun parked => let ⟨empty, rest⟩ := h.empty parked; ⟨empty, rest, h.parked parked⟩, h.tray.saved, h.tray.named,
      h.tray.edges⟩,
    ⟨h.output.start, h.output.samples, h.output.buffer, h.offset, h.finished, h.held, h.idle, h.waits,
      fun p hp live => let k := h.plan p hp live; ⟨k.more, k.inside, k.held, k.offset⟩, h.output.steps⟩⟩

/-! ### The Report Queue -/

theorem countP_reports (p : Report → Bool) (q : List ReportEntry) :
    q.countP (fun e => p e.report) = (q.map ReportEntry.report).countP p := by
  rw [List.countP_map]; rfl

/-- Only the reports count, not their OVERRUN marks. -/
theorem QueueSound.of_reports {q u : List ReportEntry} {stopped : Prop} (h : QueueSound q stopped)
    (same : u.map ReportEntry.report = q.map ReportEntry.report) : QueueSound u stopped where
  size := by
    have := congrArg List.length same
    rw [List.length_map, List.length_map] at this
    exact this ▸ h.size
  trays := by rw [countP_reports Report.isTray, same, ← countP_reports]; exact h.trays
  halts := by rw [countP_reports Report.isHalted, same, ← countP_reports]; exact h.halts
  only := fun any => h.only (by
    rw [List.any_eq_true] at any ⊢
    obtain ⟨e, he, halted⟩ := any
    obtain ⟨x, hx, report⟩ := List.mem_map.1 (same ▸ List.mem_map_of_mem he)
    exact ⟨x, hx, report ▸ halted⟩)

theorem QueueSound.sublist {q u : List ReportEntry} {stopped : Prop} (h : QueueSound q stopped)
    (sub : List.Sublist u q) : QueueSound u stopped where
  size := sub.length_le.trans h.size
  trays := (sub.countP_le ..).trans h.trays
  halts := (sub.countP_le ..).trans h.halts
  only := fun any => h.only (by
    rw [List.any_eq_true] at any ⊢
    obtain ⟨e, he, halted⟩ := any
    exact ⟨e, sub.subset he, halted⟩)

theorem QueueSound.mono {q : List ReportEntry} {stopped still : Prop} (h : QueueSound q stopped)
    (keeps : stopped → still) : QueueSound q still :=
  { h with only := fun any => keeps (h.only any) }

theorem QueueSound.nil (stopped : Prop) : QueueSound [] stopped := ⟨by decide, by decide, by decide, nofun⟩

/-- No HALTED report waits while the part has not stopped. -/
theorem QueueSound.running {q : List ReportEntry} {stopped : Prop} (h : QueueSound q stopped) (running : ¬ stopped) :
    q.countP (fun e => e.report.isHalted) = 0 := by
  rw [List.countP_eq_zero]
  intro e he halted
  exact running (h.only (List.any_eq_true.2 ⟨e, he, halted⟩))

/-- An entry joins at the end: not a second TRAY, and a HALTED only where none waits. -/
theorem QueueSound.join {q : List ReportEntry} {stopped : Prop} {e : ReportEntry} (h : QueueSound q stopped)
    (room : q.length < Config.reportCapacity)
    (tray : e.report.isTray = true → q.countP (fun e => e.report.isTray) = 0)
    (halts : e.report.isHalted = true → q.countP (fun e => e.report.isHalted) = 0 ∧ stopped) :
    QueueSound (q ++ [e]) stopped where
  size := by rw [List.length_append]; exact room
  trays := by
    rw [List.countP_append, List.countP_singleton]
    split
    · rw [tray ‹_›]
    · exact h.trays
  halts := by
    rw [List.countP_append, List.countP_singleton]
    split
    · rw [(halts ‹_›).1]
    · exact h.halts
  only := fun any => by
    rw [List.any_append, Bool.or_eq_true] at any
    rcases any with any | new
    · exact h.only any
    · exact (halts (by simpa using new)).2

/-- Only the TRAY and the HALTED reports are of level 7 (R193). -/
theorem Report.special_of_level {r : Report} (level : 7 ≤ r.level) : r.isTray = true ∨ r.isHalted = true := by
  cases r with
  | tray => exact .inl rfl
  | halted => exact .inr rfl
  | _ => exact absurd level (by simp [Report.level])

/-- A full queue has an entry below level 7, since TRAY and HALTED come once each (R190, R191). -/
theorem QueueSound.below7 {q : List ReportEntry} {stopped : Prop} (h : QueueSound q stopped)
    (full : Config.reportCapacity ≤ q.length) : ∃ e ∈ q, e.report.level < 7 := by
  by_contra none
  have special : ∀ e ∈ q, e.report.isTray = true ∨ e.report.isHalted = true := fun e he =>
    Report.special_of_level (Nat.le_of_not_lt fun low => none ⟨e, he, low⟩)
  have counted : ∀ l : List ReportEntry, (∀ e ∈ l, e.report.isTray = true ∨ e.report.isHalted = true) →
      l.length ≤ l.countP (fun e => e.report.isTray) + l.countP (fun e => e.report.isHalted) := by
    intro l
    induction l with
    | nil => intro _; exact Nat.zero_le _
    | cons x l ih =>
      intro hl
      have rest := ih fun e he => hl e (List.mem_cons_of_mem _ he)
      rw [List.countP_cons, List.countP_cons, List.length_cons]
      rcases hl x (List.mem_cons_self ..) with x7 | x7 <;> rw [if_pos x7] <;> omega
  have := counted q special
  have := h.trays
  have := h.halts
  rw [Config.reportCapacity] at full
  omega

/-- A report placed in the queue; a HALTED one where none waits (R190, R191). -/
theorem QueueSound.place {q : List ReportEntry} {stopped : Prop} (h : QueueSound q stopped) {r : Report}
    (halts : r.isHalted = true → q.countP (fun e => e.report.isHalted) = 0 ∧ stopped) :
    QueueSound (placeReport q r) stopped := by
  rw [placeReport]
  split
  · rename_i update
    obtain ⟨tray, -⟩ := Bool.and_eq_true_iff.1 update
    have trays : ∀ e : ReportEntry, (if e.report.isTray then { e with report := r } else e).report.isTray
        = e.report.isTray := fun e => by split <;> simp [*]
    have kind : r.isHalted = false := by cases r <;> first | rfl | cases tray
    have halts : ∀ e : ReportEntry, (if e.report.isTray then { e with report := r } else e).report.isHalted
        = e.report.isHalted := fun e => by
      split
      · rename_i old
        revert old
        rw [kind]
        cases e.report <;> simp [Report.isTray, Report.isHalted]
      · rfl
    exact {
      size := by rw [List.length_map]; exact h.size
      trays := by rw [List.countP_map]; simpa only [Function.comp_def, trays] using h.trays
      halts := by rw [List.countP_map]; simpa only [Function.comp_def, halts] using h.halts
      only := fun any => h.only (by
        rw [List.any_map] at any
        simpa only [Function.comp_def, halts] using any) }
  · rename_i new
    have tray (it : r.isTray = true) : q.countP (fun e => e.report.isTray) = 0 := by
      rw [it, Bool.true_and, Bool.not_eq_true, List.any_eq_false] at new
      exact List.countP_eq_zero.2 new
    split
    · rename_i room
      exact h.join room tray halts
    · rename_i full
      split
      · refine h.of_reports ?_
        rcases List.eq_nil_or_concat q with rfl | ⟨front, e, rfl⟩
        · rfl
        · rw [List.concat_eq_append, markNewest_append, List.map_append, List.map_append]; rfl
      · obtain ⟨e, he, low⟩ := h.below7 (Nat.le_of_not_lt full)
        have sub : List.Sublist (dropNewestBelow7 q) q := by
          rw [← List.reverse_sublist, dropNewestBelow7, List.reverse_reverse]
          exact List.eraseP_sublist
        have fewer : (dropNewestBelow7 q).length < Config.reportCapacity := by
          have size := h.size
          have some : 0 < q.length := List.length_pos_of_mem he
          rw [dropNewestBelow7, List.length_reverse,
            List.length_eraseP_of_mem (List.mem_reverse.2 he) (by simpa using low), List.length_reverse]
          omega
        have none {p : ReportEntry → Bool} (zero : q.countP p = 0) : (dropNewestBelow7 q).countP p = 0 :=
          Nat.le_zero.1 (zero ▸ sub.countP_le ..)
        exact (h.sublist sub).join fewer (fun it => none (tray it)) fun it => ⟨none (halts it).1, (halts it).2⟩

end Sys2Proof.Machine
end

section
/-! SUPPORT. The fill leaves the output, the gain and the tray as they are: it adds slots and creates reports. -/

namespace Sys2Proof.Machine

section
variable {s t : State}

/-- Reports of other kinds than HALTED keep the queue sound in any play state. -/
theorem QueueSound.post {stopped : Prop} (h : QueueSound s.reports stopped) {r : Report} (plain : r.isHalted = false) :
    QueueSound (s.post r).reports stopped := by
  rw [State.post]
  split
  · exact h
  · exact h.place fun it => by rw [plain] at it; cases it

/-- What an operation of the fill keeps of the other blocks. -/
structure FillMoves (s t : State) : Prop where
  out : t.out = s.out
  gain : t.gain = s.gain
  tray : t.tray = s.tray
  grows : s.store.slots.length ≤ t.store.slots.length
  queue : ∀ stopped, QueueSound s.reports stopped → QueueSound t.reports stopped

theorem FillMoves.refl (s : State) : FillMoves s s := ⟨rfl, rfl, rfl, le_rfl, fun _ h => h⟩

theorem FillMoves.trans {u : State} (h : FillMoves s t) (h' : FillMoves t u) : FillMoves s u where
  out := h'.out.trans h.out
  gain := h'.gain.trans h.gain
  tray := h'.tray.trans h.tray
  grows := h.grows.trans h'.grows
  queue := fun stopped q => h'.queue stopped (h.queue stopped q)

/-- A move that keeps the number of slots and the reports. -/
theorem FillMoves.same (out : t.out = s.out) (gain : t.gain = s.gain) (tray : t.tray = s.tray)
    (slots : t.store.slots.length = s.store.slots.length) (reports : t.reports = s.reports) : FillMoves s t :=
  ⟨out, gain, tray, slots.ge, fun _ h => reports ▸ h⟩

end

/-! ### Reports, seeks and the end of a recovery -/

section
variable (s : State)

theorem State.post_moves {r : Report} (plain : r.isHalted = false) : FillMoves s (s.post r) :=
  ⟨s.post_out r, s.post_gain r, s.post_tray r, by rw [s.post_store], fun _ h => h.post plain⟩

theorem State.issueNew_moves (r : Reason) (f : Option FaultRef) : FillMoves s (s.issueNew r f) :=
  .same rfl rfl rfl rfl rfl

theorem State.raiseCause_moves (r : Reason) (f : Option FaultRef) : FillMoves s (s.raiseCause r f) := by
  rw [raiseCause]
  split
  · split
    · split
      · exact s.issueNew_moves r f
      · exact .refl s
    · exact s.issueNew_moves r f
  · exact s.issueNew_moves r f

theorem State.leaveRecovery_moves (f : FillState) : FillMoves s (s.leaveRecovery f) := .same rfl rfl rfl rfl rfl

theorem State.refillIfDue_moves : FillMoves s s.refillIfDue := by
  rw [refillIfDue]
  split
  · exact s.issueNew_moves _ _
  · exact .refl s

theorem State.enterPausedFull_moves : FillMoves s s.enterPausedFull :=
  (FillMoves.same rfl rfl rfl rfl rfl : FillMoves s (s.leaveRecovery .pausedFull).requestPause).trans
    (State.refillIfDue_moves _)

theorem State.enterEnd_moves : FillMoves s s.enterEnd := by
  rw [enterEnd]
  split <;> exact .same rfl rfl rfl rfl rfl

/-! ### Crossings, abandons and give-ups -/

theorem State.moveTo_moves (n : SegmentIndex) (cue : Bool) : FillMoves s (s.moveTo n cue) := .same rfl rfl rfl rfl rfl

theorem State.crossByAppend_moves : FillMoves s s.crossByAppend := by
  rw [crossByAppend]
  split
  · exact s.enterEnd_moves
  · dsimp only
    split
    · exact s.moveTo_moves _ _
    · exact (s.moveTo_moves _ _).trans (State.raiseCause_moves _ _ _)

theorem State.giveUp_moves : FillMoves s s.giveUp := by
  have marked : FillMoves s { s with store := s.store.markTail } :=
    .same rfl rfl rfl (by rw [Store.markTail, List.length_modify]) rfl
  rw [giveUp]
  split
  · exact marked.trans ((State.enterEnd_moves _).trans (State.post_moves _ rfl))
  · exact marked.trans (((State.moveTo_moves _ _ _).trans (State.post_moves _ rfl)).trans (State.issueNew_moves _ _ _))

theorem State.continueAbandon_moves (last : Addr) : FillMoves s (s.continueAbandon last) := by
  have retracked (k : Tracker) (f : Recovery) : FillMoves s { s with track := k, fill := f } :=
    .same rfl rfl rfl rfl rfl
  rw [continueAbandon]
  dsimp only
  split
  · split
    · exact (retracked _ s.fill).trans (State.enterEnd_moves _)
    · exact (retracked _ s.fill).trans ((State.moveTo_moves _ _ _).trans (State.issueNew_moves _ _ _))
  · split
    · exact (retracked _ _).trans (State.giveUp_moves _)
    · exact (retracked _ _).trans (State.issueNew_moves _ _ _)

theorem State.appendRun_moves (first : Addr) (k : Nat) : FillMoves s (s.appendRun first k) :=
  ⟨rfl, rfl, rfl, by simp [appendRun, Store.pushRun], fun _ h => h⟩

theorem State.abandonAhead_moves : FillMoves s s.abandonAhead := by
  rw [abandonAhead]
  dsimp only
  split
  · exact ((s.leaveRecovery_moves _).trans (State.appendRun_moves _ _ _)).trans (State.continueAbandon_moves _ _)
  · exact .same rfl rfl rfl rfl rfl

theorem State.abandonRecovery_moves : FillMoves s s.abandonRecovery := by
  rw [abandonRecovery]
  split
  · exact s.issueNew_moves _ _
  · exact s.abandonAhead_moves

theorem State.retryRecovery_moves : FillMoves s s.retryRecovery := by
  have cleared : FillMoves s { s with track := { s.track with run := 0 } } := .same rfl rfl rfl rfl rfl
  rw [retryRecovery]
  dsimp only
  split
  · split
    · exact .same rfl rfl rfl rfl rfl
    · exact cleared.trans (State.abandonRecovery_moves _)
  · exact cleared

theorem State.evaluateRepair_moves : FillMoves s s.evaluateRepair := by
  rw [evaluateRepair]
  split
  · split
    · exact s.raiseCause_moves _ _
    · exact .refl s
  · exact .refl s

/-! ### Arrivals -/

theorem State.admitFault_moves (p : Nat) : FillMoves s (s.admitFault p) := by
  rw [admitFault]
  split
  · exact .refl s
  · dsimp only
    split
    · exact .same rfl rfl rfl (List.length_modify ..) rfl
    · exact .refl s

theorem State.countAppend_moves : FillMoves s s.countAppend := by
  rw [countAppend]
  split <;> exact .same rfl rfl rfl rfl rfl

theorem State.moveOn_moves : FillMoves s s.moveOn := by
  rw [moveOn]
  split
  · exact s.crossByAppend_moves
  · exact .same rfl rfl rfl rfl rfl

theorem State.appendSteps_moves (p : Nat) (q : Quality) : FillMoves s (s.appendSteps p q) := by
  have counted (t : State) : FillMoves t t.countAppend.moveOn := t.countAppend_moves.trans (State.moveOn_moves _)
  rw [appendSteps]
  split
  · exact (s.admitFault_moves p).trans (counted _)
  · exact counted s

theorem State.highWaterTest_moves : FillMoves s s.highWaterTest := by
  rw [highWaterTest]
  split
  · exact s.enterPausedFull_moves
  · exact .refl s

theorem State.pushBlock_moves (a : Arrival) : FillMoves s (s.pushBlock a) :=
  ⟨rfl, rfl, rfl, by simp [pushBlock, Store.push], fun _ h => h⟩

theorem State.appendAtE_moves (a : Arrival) : FillMoves s (s.appendAtE a) := by
  rw [appendAtE]
  split
  · exact ((s.pushBlock_moves a).trans (State.highWaterTest_moves _)).trans (State.appendSteps_moves _ _ _)
  · split
    · exact s.enterPausedFull_moves
    · exact .refl s

theorem State.relockAtE_moves (a : Arrival) (v : Vote) : FillMoves s (s.relockAtE a v) := by
  rw [relockAtE.eq_def]
  split
  · split
    · exact (((s.pushBlock_moves a).trans (State.leaveRecovery_moves _ _)).trans (State.appendSteps_moves _ _ _)).trans
        (State.highWaterTest_moves _)
    · exact (s.pushBlock_moves a).trans (State.appendSteps_moves _ _ _)
  · exact s.enterPausedFull_moves

theorem State.replaceAt_moves (i : Nat) (slot : Slot) (a : Arrival) : FillMoves s (s.replaceAt i slot a) := by
  rw [replaceAt]
  refine FillMoves.trans ?_ (State.post_moves _ rfl)
  exact .same rfl rfl rfl (List.length_set ..) rfl

theorem State.overlap_moves (addr : Addr) (a : Arrival) : FillMoves s (s.overlap addr a) := by
  rw [overlap]
  split
  · exact .refl s
  · split
    · exact .refl s
    · split
      · exact s.replaceAt_moves _ _ _
      · exact .refl s

theorem State.discontinuity_moves (addr : Addr) (v : Vote) : FillMoves s (s.discontinuity addr v) := by
  rw [discontinuity]
  refine FillMoves.trans ?_ (State.raiseCause_moves _ _ _)
  exact (s.post_moves rfl).trans (.same rfl rfl rfl rfl rfl)

theorem State.relockArrival_moves (a : Arrival) : FillMoves s (s.relockArrival a) := by
  rw [relockArrival]
  split
  · exact s.retryRecovery_moves
  · split
    · exact s.relockAtE_moves _ _
    · split
      · exact s.overlap_moves _ _
      · exact s.retryRecovery_moves

theorem State.trackArrival_moves (a : Arrival) : FillMoves s (s.trackArrival a) := by
  rw [trackArrival]
  split
  · exact .refl s
  · split
    · exact s.appendAtE_moves a
    · split
      · exact s.overlap_moves _ _
      · split
        · exact s.discontinuity_moves _ _
        · exact .refl s

theorem State.restArrival_moves (a : Arrival) : FillMoves s (s.restArrival a) := by
  rw [restArrival]
  split
  · exact .refl s
  · split
    · exact s.overlap_moves _ _
    · exact .refl s

theorem State.arrive_moves (a : Arrival) : FillMoves s (s.arrive a) := by
  rw [arrive]
  refine FillMoves.trans ?_ (State.evaluateRepair_moves _)
  split
  iterate 3 exact .refl s
  · exact s.relockArrival_moves a
  iterate 2 exact s.trackArrival_moves a
  iterate 2 exact s.restArrival_moves a

/-! ### Answers and the events of the fill -/

theorem State.seekAnswer_moves (tag : Tag) (status : SeekStatus) : FillMoves s (s.seekAnswer tag status) := by
  rw [seekAnswer]
  split
  · cases status with
    | locked => exact .same rfl rfl rfl rfl rfl
    | failed => exact s.retryRecovery_moves
  · exact s.post_moves rfl

theorem State.takeExpiry_moves : FillMoves s s.takeExpiry := by
  have timed (u : Timer) : FillMoves s { s with timer := u } := .same rfl rfl rfl rfl rfl
  rw [takeExpiry]
  split
  · dsimp only
    split
    · exact timed _
    · split
      · exact timed _
      · exact (timed _).trans (State.retryRecovery_moves _)
  · exact .refl s

theorem State.takePlaceholderRun_moves : FillMoves s s.takePlaceholderRun := by
  rw [takePlaceholderRun]
  split
  · exact .refl s
  · split
    · exact ((s.leaveRecovery_moves _).trans (State.appendRun_moves _ _ _)).trans (State.continueAbandon_moves _ _)
    · exact .refl s

end

/-! ### A fill that has stopped stays as it is -/

/-- The move leaves a fill that is STOPPED, and the slots with it. -/
structure Rests (s t : State) : Prop where
  state : s.fill.state = .stopped → t.fill.state = .stopped
  slots : s.fill.state = .stopped → t.store.slots = s.store.slots

theorem Rests.refl (s : State) : Rests s s := ⟨id, fun _ => rfl⟩

/-- The move is made in another fill state. -/
theorem Rests.of_other {s t : State} (other : s.fill.state ≠ .stopped) : Rests s t :=
  ⟨fun stop => absurd stop other, fun stop => absurd stop other⟩

section
variable {s : State}

theorem State.evaluateRepair_rests (s : State) : Rests s s.evaluateRepair := by
  rw [evaluateRepair]
  split
  · rename_i going
    exact .of_other fun stop => by rw [stop] at going; rcases going with it | it <;> cases it
  · exact .refl s

theorem State.arrive_rests (s : State) (a : Arrival) : Rests s (s.arrive a) := by
  by_cases stop : s.fill.state = .stopped
  · have still : s.arrive a = s.evaluateRepair := by simp only [arrive, stop]
    exact still ▸ s.evaluateRepair_rests
  · exact .of_other stop

theorem State.seekAnswer_rests (s : State) (tag : Tag) (status : SeekStatus) : Rests s (s.seekAnswer tag status) := by
  rw [seekAnswer]
  split
  · rename_i matched
    exact .of_other fun stop => by rw [stop] at matched; cases matched.2.1
  · exact ⟨fun stop => (congrArg _ (s.post_fill _)).trans stop, fun _ => congrArg _ (s.post_store _)⟩

theorem State.refillIfDue_rests (s : State) : Rests s s.refillIfDue := by
  rw [refillIfDue]
  split
  · rename_i due
    refine .of_other fun stop => ?_
    rw [refillTest, stop] at due
    cases due
  · exact .refl s

theorem State.takePlaceholderRun_rests (s : State) : Rests s s.takePlaceholderRun := by
  rw [takePlaceholderRun]
  split
  · exact .refl s
  · split
    · rename_i due
      exact .of_other fun stop => by rw [stop] at due; cases due.1
    · exact .refl s

/-- The watchdog is armed in a recovery alone (R155). -/
theorem Kept.takeExpiry_rests {P : Prop} (h : Kept P s) : Rests s s.takeExpiry := by
  by_cases stop : s.fill.state = .stopped
  · have off : s.timer.armed = false := h.fill.watching.trans (by rw [stop]; rfl)
    rw [State.takeExpiry]
    split
    · exact ⟨id, fun _ => rfl⟩
    · exact .refl s
  · exact .of_other stop

end

/-! ### The laws through a move of the fill -/

section
variable {n : Nat} {s t : State}

theorem Loose.of_moves (h : Loose n s) (kept : Kept False t) (moves : FillMoves s t) (rests : Rests s t) :
    Loose n t := by
  obtain ⟨out, gain, tray, grows, queue⟩ := moves
  exact {
    toKept := kept
    gain := gain ▸ h.gain
    target := by rw [out, gain]; exact h.target
    silent := by rw [out, gain, tray]; exact h.silent
    queue := by rw [out]; exact queue _ h.queue
    records := tray ▸ h.records
    tray := by rw [out, tray]; exact h.tray
    output := out ▸ h.output
    empty := by
      rw [out, tray]
      intro parked
      obtain ⟨empty, stop⟩ := h.empty parked
      exact ⟨(rests.slots stop).trans empty, rests.state stop⟩ }

theorem AllKept.of_moves (h : AllKept n s) (kept : Kept False t) (moves : FillMoves s t) (rests : Rests s t) :
    AllKept n t := by
  have loose := h.toLoose.of_moves kept moves rests
  obtain ⟨out, gain, tray, grows, queue⟩ := moves
  exact {
    toLoose := loose
    offset := out ▸ h.offset
    held := by
      rw [out]
      intro live seated has
      have some := List.length_pos_iff.2 (h.held live seated has)
      exact List.length_pos_iff.1 (some.trans_le grows)
    idle := by rw [out]; exact h.idle
    parked := by rw [out, tray]; exact h.parked
    waits := by rw [out]; exact h.waits
    plan := by
      rw [out]
      exact fun p hp live => { h.plan p hp live with held := (h.plan p hp live).held.trans grows }
    finished := by rw [out, gain, tray]; exact h.finished }

theorem AllKept.evaluateRepair (h : AllKept n s) : AllKept n s.evaluateRepair :=
  h.of_moves h.toKept.evaluateRepair s.evaluateRepair_moves s.evaluateRepair_rests

theorem AllKept.arrive (h : AllKept n s) {a : Arrival} (sound : a.quality ≠ .missing)
    (size : a.payload.length = Config.areaBytes) : AllKept n (s.arrive a) :=
  h.of_moves (h.toKept.arrive sound size) (s.arrive_moves a) (s.arrive_rests a)

theorem AllKept.seekAnswer (h : AllKept n s) (tag : Tag) (status : SeekStatus) : AllKept n (s.seekAnswer tag status) :=
  h.of_moves (h.toKept.seekAnswer tag status) (s.seekAnswer_moves tag status) (s.seekAnswer_rests tag status)

theorem AllKept.takeExpiry (h : AllKept n s) : AllKept n s.takeExpiry :=
  h.of_moves h.toKept.takeExpiry s.takeExpiry_moves h.toKept.takeExpiry_rests

theorem AllKept.takeRefill (h : AllKept n s) : AllKept n s.takeRefill :=
  h.of_moves h.toKept.refillIfDue s.refillIfDue_moves s.refillIfDue_rests

theorem AllKept.takePlaceholderRun (h : AllKept n s) : AllKept n s.takePlaceholderRun :=
  h.of_moves h.toKept.takePlaceholderRun s.takePlaceholderRun_moves s.takePlaceholderRun_rests

end

end Sys2Proof.Machine
end

section
/-! SUPPORT. The laws through a report, a request to the Gain Unit, a play state entered and a cursor moved. -/

namespace Sys2Proof.Machine

/-! ### The steps of fades (R134, R145, R149) -/

theorem stepOfLength_bounds {len : Nat} (low : 64 ≤ len) (high : len ≤ 4096) :
    8 ≤ stepOfLength len ∧ stepOfLength len ≤ 512 := by
  rw [stepOfLength, Config.unity]
  exact ⟨(Nat.le_div_iff_mul_le (by omega)).2 (by omega), Nat.div_le_of_le_mul (by omega)⟩

theorem Profile.fadeStep_bounds {p : Profile} (legal : p.fadeCode ≤ 6) : 8 ≤ p.fadeStep ∧ p.fadeStep ≤ 512 :=
  stepOfLength_bounds (le_fadeLength _) (fadeLength_le legal)

theorem cutStep_bounds (code : Nat) :
    8 ≤ stepOfLength (cutLength code) ∧ stepOfLength (cutLength code) ≤ 512 :=
  stepOfLength_bounds (le_min (le_fadeLength code) (by decide)) ((min_le_right _ _).trans (by decide))

theorem concealLength_bounds {code samples q : Nat} (legal : code ≤ 6)
    (chosen : concealLength (fadeLength code) samples = some q) : 64 ≤ q ∧ q ≤ 4096 := by
  have listed : ∀ q ∈ [2048, 1024, 512, 256, 128, 64], 64 ≤ q ∧ q ≤ 4096 := by decide
  rw [concealLength] at chosen
  split at chosen
  · cases chosen
    exact ⟨le_fadeLength code, fadeLength_le legal⟩
  · exact listed q (List.mem_of_find?_eq_some chosen)

theorem longStep_bounds {kind : PlanKind} {p : Profile} {samples step : Nat} (legal : p.fadeCode ≤ 6)
    (chosen : longStep kind p samples = some step) : 8 ≤ step ∧ step ≤ 512 := by
  cases kind with
  | ramp | mute => cases chosen
  | fade =>
    obtain ⟨q, length, rfl⟩ := Option.map_eq_some_iff.1 chosen
    obtain ⟨low, high⟩ := concealLength_bounds legal length
    exact stepOfLength_bounds low high
  | drop =>
    cases chosen
    exact Profile.fadeStep_bounds legal

section
variable {s : State} (h : TableLaw s)
include h

theorem TableLaw.fadeCode (i : ProfileIndex) : s.table.profiles[i].fadeCode ≤ 6 :=
  (h.2.1 _ (Vector.mem_toList_iff.2 (Vector.getElem_mem i.isLt))).2.1

theorem TableLaw.currentStep : 8 ≤ s.currentProfile.fadeStep ∧ s.currentProfile.fadeStep ≤ 512 := by
  refine Profile.fadeStep_bounds ?_
  rw [State.currentProfile]
  split <;> exact h.fadeCode _

end

/-! ### The play states in which the cursor moves -/

/-- Where the cursor moves, the play state is none of those that are silent or wait. -/
structure State.Apart (s : State) : Prop where
  idle : s.out.play ≠ .idle
  priming : s.out.play ≠ .priming
  paused : s.out.play ≠ .paused
  starved : s.out.play ≠ .starved
  halted : s.out.play ≠ .halted
  parked : ¬ Parked s.out.play s.tray.state

section
variable {n : Nat} {s : State}

theorem State.apart_of_moving (moving : s.moving = true) : s.Apart := by
  have parts : ∀ p : PlayState, ∀ t : TrayState,
      (p = .playing ∨ p = .pausing ∨ p = .stopping ∨ (p = .trayHold ∧ t = .fading)) →
      p ≠ .idle ∧ p ≠ .priming ∧ p ≠ .paused ∧ p ≠ .starved ∧ p ≠ .halted ∧ ¬ Parked p t := by
    rintro p t (rfl | rfl | rfl | ⟨rfl, rfl⟩) <;> simp
  obtain ⟨a, b, c, d, e, f⟩ := parts _ _ ((State.moving_iff s).1 moving)
  exact ⟨a, b, c, d, e, f⟩

theorem State.Apart.waits (h : s.Apart) : ¬ (s.out.play = .priming ∨ s.out.play = .starved) :=
  not_or.2 ⟨h.priming, h.starved⟩

theorem State.Apart.quiet (h : s.Apart) : ¬ Quiet s.out.play s.tray.state := by
  rintro (it | it | it | it | it)
  exacts [h.idle it, h.priming it, h.paused it, h.halted it, h.parked it]

/-! ### Reports -/

theorem State.post_eq_withReports (s : State) (r : Report) : s.post r = { s with reports := (s.post r).reports } := by
  rw [State.post]; split <;> rfl

theorem Loose.post (h : Loose n s) {r : Report} (plain : r.isHalted = false) : Loose n (s.post r) := by
  rw [State.post_eq_withReports]
  exact { h with
    toKept := h.toKept.of_view rfl
    queue := h.queue.post plain }

theorem Seated.post (h : Seated n s) {r : Report} (plain : r.isHalted = false) : Seated n (s.post r) := by
  have loose := h.toLoose.post plain
  rw [State.post_eq_withReports] at loose ⊢
  exact { h with toLoose := loose }

theorem AllKept.post (h : AllKept n s) {r : Report} (plain : r.isHalted = false) : AllKept n (s.post r) := by
  have seated := h.toSeated.post plain
  rw [State.post_eq_withReports] at seated ⊢
  exact { h with toSeated := seated }

theorem AllKept.answer (h : AllKept n s) (source : FrameSource) (code : Byte) (outcome : ResultCode)
    (present : Bool := false) : AllKept n (s.answer source code outcome present) := h.post rfl

/-! ### Requests to the Gain Unit -/

/-- A gain that is low where the play state has it so, and stays at 0 where it is. -/
structure Gain.Follows (g : Gain) (s : State) : Prop extends g.Ranged where
  low : s.out.play ≠ .playing → g.target = 0
  still : s.gain.fade = 0 → g.fade = 0

theorem Loose.withGain (h : Loose n s) {g : Gain} (fits : g.Follows s) : Loose n { s with gain := g } :=
  { h with
    toKept := h.toKept.of_view rfl
    gain := fits.toRanged
    target := fits.low
    silent := fun quiet => fits.still (h.silent quiet) }

theorem Seated.withGain (h : Seated n s) {g : Gain} (fits : g.Follows s) : Seated n { s with gain := g } :=
  { h with toLoose := h.toLoose.withGain fits }

theorem AllKept.withGain (h : AllKept n s) {g : Gain} (fits : g.Follows s) : AllKept n { s with gain := g } :=
  { h with
    toSeated := h.toSeated.withGain fits
    finished := fun done => have ⟨mute, holds⟩ := h.finished done; ⟨fits.still mute, holds⟩ }

theorem Gain.Ranged.withStep {g : Gain} (h : g.Ranged) {step : Nat} (bounds : 8 ≤ step ∧ step ≤ 512)
    (source : StepSource) : { g with step := step, source := source }.Ranged :=
  { h with step := bounds }

/-- The step alone is taken again (R132, R135). -/
theorem Loose.stepFollows (h : Loose n s) {step : Nat} (bounds : 8 ≤ step ∧ step ≤ 512) (source : StepSource) :
    { s.gain with step := step, source := source }.Follows s :=
  { h.gain.withStep bounds source with low := h.target, still := id }

/-- A fade-out with a step of its own (R135). -/
theorem Loose.fixedFade_follows (h : Loose n s) {step : Nat} (bounds : 8 ≤ step ∧ step ≤ 512) :
    (s.fixedFade step).gain.Follows s :=
  { h.gain with target := .inl rfl, step := bounds, low := fun _ => rfl, still := id }

/-- Cut off, and mute (R135). -/
theorem Loose.cutOff_follows (h : Loose n s) : s.cutOff.gain.Follows s :=
  { h.gain with fade := Nat.zero_le _, target := .inl rfl, low := fun _ => rfl, still := fun _ => rfl }

/-- A raise of the target is taken in PLAYING alone, where the cursor moves (R114). -/
theorem Loose.raisedTarget (h : Loose n s) (moving : s.moving = true) :
    (s.raisedTarget = 0 ∨ s.raisedTarget = Config.unity) ∧ (s.out.play ≠ .playing → s.raisedTarget = 0) := by
  rw [State.raisedTarget]
  split
  · exact ⟨h.gain.target, h.target⟩
  · rename_i raises
    refine ⟨.inr rfl, fun other => absurd ?_ raises⟩
    rcases (State.moving_iff s).1 moving with it | it | it | ⟨it, -⟩
    · exact absurd it other
    all_goals rw [it]; rfl

theorem Loose.refreshStep (h : Loose n s) : Loose n s.refreshStep := by
  rw [State.refreshStep]
  split
  · exact h.withGain (h.stepFollows h.tables.currentStep s.gain.source)
  · exact h

/-! ### A play state entered (R111, R135) -/

/-- Away from a stop fade and a tray fade the tray is not FADING, and nothing is saved. -/
theorem Tray.Sound.move {tr : Tray} {p q : PlayState} (h : tr.Sound p) (hold : p ≠ .trayHold) (stop : p ≠ .stopping)
    (other : q ≠ .trayHold) : tr.Sound q :=
  { h with
    fading := fun fades => (h.fading fades).elim (absurd · hold) (absurd · stop)
    hold := fun it => absurd it other
    saved := h.saved.trans (iff_of_false (fun it => hold it.1) fun it => other it.1) }

/-- The play states between PRIMING and the end of a play that are entered with a fade (R111). -/
structure PlayState.Open (p : PlayState) : Prop where
  idle : p ≠ .idle
  waits : ¬ (p = .priming ∨ p = .starved)
  halted : p ≠ .halted
  hold : p ≠ .trayHold

theorem Seated.enter (h : Seated n s) {p : PlayState} (opened : p.Open) (running : s.out.play ≠ .halted)
    (hold : s.out.play ≠ .trayHold) (stop : s.out.play ≠ .stopping) (mute : p = .paused → s.gain.fade = 0) :
    Seated n (s.enter p) where
  toKept := h.toKept.enter running opened.halted
  gain := { h.gain with
    target := by cases p <;> first | exact .inl rfl | exact .inr rfl
    step := h.tables.currentStep }
  target := fun other => by cases p <;> first | rfl | exact absurd rfl other
  silent := by
    rintro (it | it | it | it | it)
    · exact absurd it opened.idle
    · exact absurd (.inl it) opened.waits
    · exact mute it
    · exact absurd it opened.halted
    · exact absurd it.1 opened.hold
  queue := h.queue.mono (absurd · running)
  records := h.records
  tray := h.tray.move hold stop opened.hold
  output := { h.output with }
  empty := fun parked => absurd parked.1 opened.hold
  offset := h.offset
  held := fun _ => h.held running
  idle := fun it => absurd it opened.idle
  parked := fun parked => absurd parked.1 opened.hold
  waits := fun it => absurd it opened.waits
  plan := fun q hq _ => h.plan q hq running

theorem AllKept.enter (h : AllKept n s) {p : PlayState} (opened : p.Open) (running : s.out.play ≠ .halted)
    (hold : s.out.play ≠ .trayHold) (stop : s.out.play ≠ .stopping) (mute : p = .paused → s.gain.fade = 0)
    (other : s.out.cursor ≠ .finished ∨ p = .paused ∨ p = .pausing ∨ p = .stopping) : AllKept n (s.enter p) :=
  { h.toSeated.enter opened running hold stop mute with
    finished := fun done => ⟨(h.finished done).1,
      other.elim (absurd done) fun it => it.imp_right fun it => it.imp_right .inl⟩ }

/-! ### The cursor and the plan set anew while the cursor moves -/

theorem Loose.withOut (h : Loose n s) {o : Output} (play : o.play = s.out.play) (ranged : o.Ranged n) :
    Loose n { s with out := o } :=
  { h with
    toKept := h.toKept.of_view (by simp [State.view, play])
    target := by rw [play]; exact h.target
    silent := by rw [play]; exact h.silent
    queue := by rw [play]; exact h.queue
    tray := by rw [play]; exact h.tray
    output := ranged
    empty := by rw [play]; exact h.empty }

theorem Loose.seated (h : Loose n s) (moving : s.moving = true) {o : Output} (play : o.play = s.out.play)
    (ranged : o.Ranged n) (offset : o.cursor.offset < Config.pairsPerBlock)
    (held : o.cursor ≠ .waiting → o.cursor ≠ .none → s.store.slots ≠ []) (plan : ∀ p ∈ o.plan, p.Held s.store.count) :
    Seated n { s with out := o } :=
  have apart := State.apart_of_moving moving
  { h.withOut play ranged with
    offset := offset
    held := fun _ => held
    idle := fun it => absurd (play ▸ it) apart.idle
    parked := fun it => absurd (play ▸ it) apart.parked
    waits := fun it => absurd (play ▸ it) apart.waits
    plan := fun p hp _ => plan p hp }

theorem Loose.seat (h : Loose n s) (moving : s.moving = true) {o : Output} (play : o.play = s.out.play)
    (ranged : o.Ranged n) (offset : o.cursor.offset < Config.pairsPerBlock) (going : o.cursor ≠ .finished)
    (held : o.cursor ≠ .waiting → o.cursor ≠ .none → s.store.slots ≠ []) (plan : ∀ p ∈ o.plan, p.Held s.store.count) :
    AllKept n { s with out := o } :=
  { h.seated moving play ranged offset held plan with finished := fun done => absurd done going }

end

end Sys2Proof.Machine
end

section
/-! SUPPORT. The output keeps the laws: halts, block boundaries, plan ends, heads and the sample period. -/

namespace Sys2Proof.Machine

/-! ### A block read -/

theorem Memory.bytesFrom_length (n a : Nat) (cells : List Host.Cell) : (Memory.bytesFrom a n cells).length = n := by
  induction n generalizing a cells with
  | zero => cases cells <;> rfl
  | succ n ih =>
    cases cells with
    | nil => rw [Memory.bytesFrom, List.length_cons, ih]
    | cons c cells => rw [Memory.bytesFrom]; split <;> rw [List.length_cons, ih]

/-- Four bytes a pair (R3). -/
theorem pairsOf_length (n : Nat) (bytes : List Byte) (size : bytes.length = 4 * n) : (pairsOf bytes).length = n := by
  induction n generalizing bytes with
  | zero => rw [List.eq_nil_of_length_eq_zero size]; rfl
  | succ n ih =>
    match bytes, size with
    | _ :: _ :: _ :: _ :: rest, size =>
      rw [pairsOf, List.length_cons, ih rest (by simp only [List.length_cons] at size; omega)]

theorem Store.readBlock_length {st : Store} {i : Nat} {pairs : List Pair} (read : st.readBlock i = some pairs) :
    pairs.length = Config.pairsPerBlock := by
  rw [Store.readBlock] at read
  split at read
  · cases read
  · dsimp only at read
    split at read
    · cases read
      exact pairsOf_length _ _ (Memory.bytesFrom_length ..)
    · cases read

theorem zero_lt_pairs : 0 < Config.pairsPerBlock := by decide

/-- The run at the head is held, and has a slot at least (R139). -/
theorem Store.run_length {st : Store} {x : Slot} {rest : List Slot} (held : st.slots = x :: rest) :
    1 ≤ st.run.length ∧ st.run.length ≤ st.count := by
  rw [Store.run, Store.count, held]
  simp only [List.length_append, List.length_take, List.length_cons, List.tail_cons]
  have := (List.takeWhile_prefix (fun s : Slot => !s.quality.readable) (l := rest)).length_le
  omega

section
variable {n : Nat} {s : State}

/-! ### HALTED (R128, R170) -/

/-- Out of FADING by the line, with nothing saved (R170). -/
theorem Tray.Sound.leaveFading {tr : Tray} {p q : PlayState} (h : tr.Sound p) (other : q ≠ .trayHold) :
    { tr.leaveFading with saved := none }.Sound q := by
  have unsaved : (none : Option Position).isSome = true ↔ Parked q tr.leaveFading.state :=
    iff_of_false nofun fun it => other it.1
  rw [Tray.leaveFading] at unsaved ⊢
  split at unsaved
  · rename_i fades
    rw [if_pos fades]
    cases line : tr.line with
    | low => exact ⟨by simp [trayAfterFade], fun _ => rfl, nofun, fun _ => nofun, by simpa [line] using unsaved, nofun,
        h.edges⟩
    | high => exact ⟨fun _ => rfl, by simp [trayAfterFade], nofun, fun _ => nofun, by simpa [line] using unsaved, nofun,
        h.edges⟩
  · rename_i steady
    rw [if_neg steady]
    exact { h with
      fading := fun it => absurd it steady
      hold := fun it => absurd it other
      saved := unsaved }

/-- HALTED entered while the cursor moves (R128, R151). -/
theorem Loose.halt (h : Loose n s) (moving : s.moving = true) (going : s.out.cursor ≠ .finished)
    (offset : s.out.cursor.offset < Config.pairsPerBlock) (pos : Position) (kind : PlanKind) :
    AllKept n (s.halt pos kind) := by
  have apart := State.apart_of_moving moving
  have kept := h.toKept.halt pos kind
  have queue : QueueSound (s.haltedAsItStands.post (.halted pos kind)).reports True := by
    have waits := h.queue.running apart.halted
    rw [State.post]
    split
    · exact h.queue.mono fun _ => trivial
    · exact (h.queue.mono fun _ => trivial).place (r := .halted pos kind) fun _ => ⟨waits, trivial⟩
  rw [State.halt_eq, State.post_eq_withReports] at kept ⊢
  exact {
    toKept := kept
    gain := { h.gain with fade := Nat.zero_le _, target := .inl rfl }
    target := fun _ => rfl
    silent := fun _ => rfl
    queue := queue.mono fun _ => rfl
    records := by
      have same : s.tray.leftFading.records = s.tray.records := by
        rw [Tray.leftFading]; split <;> rfl
      exact (congrArg RecordsSound same).mpr h.records
    tray := by
      have left := h.tray.leaveFading (q := .halted) nofun
      rw [Tray.leaveFading_eq] at left
      exact left
    output := { h.output with }
    empty := fun parked => nomatch parked.1
    offset := offset
    held := fun live => absurd rfl live
    idle := nofun
    parked := fun parked => nomatch parked.1
    waits := fun it => by rcases it with it | it <;> cases it
    plan := fun _ _ live => absurd rfl live
    finished := fun done => absurd done going }

/-! ### The head leaves the store (R12) -/

@[simp] theorem State.consume_gain (s : State) : s.consume.gain = s.gain := by
  rw [State.consume.eq_def]; split <;> rfl
@[simp] theorem State.consume_tray (s : State) : s.consume.tray = s.tray := by
  rw [State.consume.eq_def]; split <;> rfl
@[simp] theorem State.consume_fill (s : State) : s.consume.fill = s.fill := by
  rw [State.consume.eq_def]; split <;> rfl
@[simp] theorem State.consume_reports (s : State) : s.consume.reports = s.reports := by
  rw [State.consume.eq_def]; split <;> rfl
@[simp] theorem State.consume_play (s : State) : s.consume.out.play = s.out.play := by
  rw [State.consume.eq_def]; split <;> rfl
@[simp] theorem State.consume_plan (s : State) : s.consume.out.plan = s.out.plan := by
  rw [State.consume.eq_def]; split <;> rfl
theorem State.consume_slots (s : State) : s.consume.store.slots = s.store.slots.tail := by
  rw [State.consume.eq_def]
  split
  · rename_i empty
    rw [empty]; rfl
  · rfl
@[simp] theorem State.consume_moving (s : State) : s.consume.moving = s.moving := by
  simp [State.moving, State.beforeSave]

theorem Output.Ranged.consume (h : s.out.Ranged n) : s.consume.out.Ranged n := by
  rw [State.consume.eq_def]
  split
  · exact h
  · exact ⟨zero_lt_pairs, h.samples, .inl rfl, h.steps⟩

theorem Loose.consume (h : Loose n s) : Loose n s.consume where
  toKept := h.toKept.consume
  gain := by rw [State.consume_gain]; exact h.gain
  target := by rw [State.consume_gain, State.consume_play]; exact h.target
  silent := by rw [State.consume_gain, State.consume_play, State.consume_tray]; exact h.silent
  queue := by rw [State.consume_reports, State.consume_play]; exact h.queue
  records := by rw [State.consume_tray]; exact h.records
  tray := by rw [State.consume_tray, State.consume_play]; exact h.tray
  output := h.output.consume
  empty := by
    rw [State.consume_tray, State.consume_play, State.consume_fill, State.consume_slots]
    intro parked
    obtain ⟨empty, stop⟩ := h.empty parked
    exact ⟨by rw [empty]; rfl, stop⟩

/-! ### A slot that becomes the head (R117, R126) -/

/-- Without a plan the ranges stay. -/
theorem Output.Ranged.unplanned {o : Output} (h : o.Ranged n) {cursor : Cursor} :
    ({ o with cursor := cursor, plan := none } : Output).Ranged n :=
  { h with steps := fun _ hp => by cases hp }

theorem Loose.enterSegment (h : Loose n s) (slot : Slot) (offset : Nat) : Loose n (s.enterSegment slot offset) := by
  have entered : Loose n ({ s with out := { s.out with cursorSegment := some slot.segment } } : State).refreshStep :=
    (h.withOut (o := { s.out with cursorSegment := some slot.segment }) rfl { h.output with }).refreshStep
  rw [State.enterSegment]
  split
  · exact h
  · dsimp only
    split
    · exact entered
    · exact entered.post rfl

@[simp] theorem State.refreshStep_out (s : State) : s.refreshStep.out = s.out := by
  rw [State.refreshStep]; split <;> rfl
@[simp] theorem State.refreshStep_tray (s : State) : s.refreshStep.tray = s.tray := by
  rw [State.refreshStep]; split <;> rfl

/-- Only the cursor segment of the output changes. -/
theorem State.enterSegment_out (s : State) (slot : Slot) (offset : Nat) :
    (s.enterSegment slot offset).out = { s.out with cursorSegment := some slot.segment } := by
  rw [State.enterSegment]
  split
  · rename_i same
    rw [← same]
  · dsimp only
    split <;> simp

@[simp] theorem State.enterSegment_tray (s : State) (slot : Slot) (offset : Nat) :
    (s.enterSegment slot offset).tray = s.tray := by
  rw [State.enterSegment]
  split
  · rfl
  · dsimp only
    split <;> simp

@[simp] theorem State.enterSegment_store (s : State) (slot : Slot) (offset : Nat) :
    (s.enterSegment slot offset).store = s.store := congrArg FillView.store (s.enterSegment_view slot offset)

@[simp] theorem State.enterSegment_moving (s : State) (slot : Slot) (offset : Nat) :
    (s.enterSegment slot offset).moving = s.moving := by
  simp [State.moving, State.beforeSave, State.enterSegment_out]

/-! ### Block boundaries (R118 to R121) -/

/-- Starvation (R119). -/
theorem Loose.starve (h : Loose n s) (playing : s.out.play = .playing) : AllKept n s.starve := by
  have running : s.out.play ≠ .halted := by rw [playing]; decide
  have waits : AllKept n ({ s with out := { s.out with cursor := .waiting, plan := none } }.enter .starved) := {
    toKept := (h.toKept.of_view rfl : Kept False { s with
      out := { s.out with cursor := .waiting, plan := none } }).enter running (by decide)
    gain := { h.gain with target := .inl rfl, step := h.tables.currentStep }
    target := fun _ => rfl
    silent := by rintro (it | it | it | it | ⟨it, -⟩) <;> cases it
    queue := h.queue.mono (absurd · running)
    records := h.records
    tray := h.tray.move (by rw [playing]; decide) (by rw [playing]; decide) nofun
    output := { (h.output.unplanned (cursor := .waiting)) with }
    empty := fun parked => nomatch parked.1
    offset := zero_lt_pairs
    held := fun _ it => absurd rfl it
    idle := nofun
    parked := fun parked => nomatch parked.1
    waits := fun _ => ⟨rfl, rfl⟩
    plan := fun _ hp => by cases hp
    finished := nofun }
  exact waits.post rfl

/-- The end of the program (R121). -/
theorem Loose.endProgram (h : Loose n s) (playing : s.out.play = .playing) (ended : s.fill.state = .ended) :
    AllKept n s.endProgram := by
  have running : s.out.play ≠ .halted := by rw [playing]; decide
  have kept := h.toKept.endProgram ended
  rw [State.endProgram] at kept ⊢
  have plain : (if s.table.stopIndex = some (s.out.cursorSegment.getD 0)
      then Report.stopReached (s.out.cursorSegment.getD 0) s.out.lastPlayed
      else .endOfList (s.out.cursorSegment.getD 0) s.out.lastPlayed).isHalted = false := by split <;> rfl
  refine AllKept.post ?_ plain
  exact {
    toKept := kept.of_view (State.post_view _ _).symm
    gain := { h.gain with fade := Nat.zero_le _, target := .inl rfl }
    target := fun _ => rfl
    silent := fun _ => rfl
    queue := h.queue.mono (absurd · running)
    records := h.records
    tray := h.tray.move (by rw [playing]; decide) (by rw [playing]; decide) nofun
    output := { h.output with
      buffer := .inl rfl
      steps := fun _ hp => by cases hp }
    empty := fun parked => nomatch parked.1
    offset := zero_lt_pairs
    held := fun _ _ it => absurd rfl it
    idle := fun _ => rfl
    parked := fun parked => nomatch parked.1
    waits := fun it => by rcases it with it | it <;> cases it
    plan := fun _ hp => by cases hp
    finished := nofun }

/-- The block boundary test (R118). -/
theorem Loose.boundaryTest (h : Loose n s) (moving : s.moving = true) : AllKept n s.boundaryTest := by
  rw [State.boundaryTest]
  split
  · rename_i held
    exact h.seat moving rfl h.output.unplanned zero_lt_pairs nofun (fun _ _ => held) fun _ hp => by cases hp
  · split
    · rename_i playing
      split
      · rename_i ended
        exact h.endProgram playing ended
      · exact h.starve playing
    · exact h.seat moving rfl h.output.unplanned zero_lt_pairs nofun (fun it => absurd rfl it) fun _ hp => by cases hp

/-- The follower fades in (R135, R148). -/
theorem Loose.followerFadeIn (h : Loose n s) (moving : s.moving = true) {p : Profile} (legal : p.fadeCode ≤ 6) :
    (s.followerFadeIn p).gain.Follows s :=
  have ⟨target, low⟩ := h.raisedTarget moving
  { h.gain with
    fade := Nat.zero_le _
    target := target
    step := Profile.fadeStep_bounds legal
    low := low
    still := fun _ => rfl }

/-- The block behind a long plan, read, begins with the fade-in (R148). -/
theorem Loose.fadeIn (h : Loose n s) (moving : s.moving = true) (held : s.store.slots ≠ [])
    (unplanned : s.out.plan = none) {p : Profile} (legal : p.fadeCode ≤ 6) {pairs : List Pair}
    (full : pairs.length = Config.pairsPerBlock) : AllKept n { s.followerFadeIn p with
      out := { s.out with buffer := pairs, cursor := .head 0, afterCut := false } } :=
  (h.withGain (h.followerFadeIn moving legal)).seat moving rfl { h.output with buffer := .inr full } zero_lt_pairs nofun
    (fun _ _ => held) fun p hp => by
      rw [show _ = none from unplanned] at hp
      cases hp

/-- The plan-end step (R148, R151). -/
theorem Loose.planEnd (h : Loose n s) (moving : s.moving = true) (kind : PlanKind) : AllKept n (s.planEnd kind) := by
  rw [State.planEnd]
  split
  · exact h.boundaryTest moving
  · rename_i slot _ held
    split
    · split
      · rename_i pairs read
        have freed : Loose n { s with out := { s.out with plan := none } } :=
          h.withOut rfl (h.output.unplanned (cursor := s.out.cursor))
        have entered := freed.enterSegment slot 0
        have moves : ({ s with out := { s.out with plan := none } }.enterSegment slot 0).moving = true :=
          (State.enterSegment_moving _ _ _).trans moving
        have slots : ({ s with out := { s.out with plan := none } }.enterSegment slot 0).store.slots ≠ [] := by
          rw [State.enterSegment_store, held]
          exact List.cons_ne_nil _ _
        have plan : ({ s with out := { s.out with plan := none } }.enterSegment slot 0).out.plan = none := by
          rw [State.enterSegment_out]
        exact entered.fadeIn moves slots plan (entered.tables.fadeCode _) (Store.readBlock_length read)
      · have passed : Loose n { s with out := { s.out with cursor := .next } } := h.withOut rfl { h.output with }
        exact passed.halt moving nofun zero_lt_pairs _ _
    · exact h.boundaryTest moving

/-- A cut fade begun late ends with the consume (R149). -/
theorem Loose.lateCut (h : Loose n s) (p : Plan) : Loose n (s.lateCut p) := by
  rw [State.lateCut]
  split
  · exact h.withGain { h.gain with fade := Nat.zero_le _, low := h.target, still := fun _ => rfl }
  · exact h

@[simp] theorem State.lateCut_out (s : State) (p : Plan) : (s.lateCut p).out = s.out := by
  rw [State.lateCut]; split <;> rfl
@[simp] theorem State.lateCut_store (s : State) (p : Plan) : (s.lateCut p).store = s.store := by
  rw [State.lateCut]; split <;> rfl
@[simp] theorem State.lateCut_tray (s : State) (p : Plan) : (s.lateCut p).tray = s.tray := by
  rw [State.lateCut]; split <;> rfl

/-- The consume of the finished head and what follows it (R118, R144 to R146): under a plan the next run slot is
held. -/
theorem Seated.boundary (h : Seated n s) (moving : s.moving = true) : AllKept n s.boundary := by
  have apart := State.apart_of_moving moving
  rw [State.boundary]
  split
  · exact h.toLoose.consume.boundaryTest ((State.consume_moving s).trans moving)
  · rename_i p planned
    have run := h.plan p planned apart.halted
    have consumed := (h.toLoose.lateCut p).consume
    have moves : (s.lateCut p).consume.moving = true := by
      rw [State.consume_moving]
      simpa [State.moving, State.beforeSave] using moving
    have plan : (s.lateCut p).consume.out.plan = some p := by
      rw [State.consume_plan, State.lateCut_out, planned]
    have count : (s.lateCut p).consume.store.count = s.store.count - 1 := by
      rw [Store.count, State.consume_slots, State.lateCut_store, List.length_tail]; rfl
    have steps (left : Nat) : ∀ q ∈ some { p with left := left }, ∀ step ∈ q.fadeStep, 8 ≤ step ∧ step ≤ 512 := by
      intro q hq
      cases hq
      exact h.output.steps p planned
    have spent : Loose n { (s.lateCut p).consume with
        out := { (s.lateCut p).consume.out with plan := some { p with left := 0 } } } :=
      consumed.withOut rfl { consumed.output with steps := steps 0 }
    dsimp only
    split
    · rename_i more
      have := run.held
      refine consumed.seat moves rfl { consumed.output with steps := steps _ } zero_lt_pairs nofun (fun _ _ => ?_) ?_
      · rw [← List.length_pos_iff]
        change 0 < (s.lateCut p).consume.store.count
        omega
      · intro q hq
        cases hq
        exact ⟨Nat.le_sub_one_of_lt more, (Nat.sub_le _ _).trans run.inside, by
          rw [count]
          exact Nat.sub_le_sub_right run.held 1, run.offset⟩
    · split
      · exact spent.boundaryTest moves
      all_goals exact spent.planEnd moves _

/-! ### A DROP's run leaves the store (R147) -/

theorem Loose.dropRun (m : Nat) (h : Loose n s) (moving : s.moving = true) :
    Loose n (State.dropRun m s) ∧ (State.dropRun m s).moving = true := by
  induction m generalizing s with
  | zero => exact ⟨h, moving⟩
  | succ m ih =>
    rw [State.dropRun]
    split
    · exact ⟨h, moving⟩
    · exact ih (h.enterSegment _ 0).consume (by simpa using moving)

theorem Loose.dropPlan (h : Loose n s) (moving : s.moving = true) {p : Plan} (planned : s.out.plan = some p) :
    AllKept n s.dropPlan := by
  obtain ⟨dropped, moves⟩ := h.dropRun p.left moving
  simp only [State.dropPlan, planned]
  refine Loose.planEnd (s := { State.dropRun p.left s with out := { (State.dropRun p.left s).out with
    plan := some { p with phase := .dropped, left := 0 } } }) ?_ moves .drop
  refine dropped.withOut rfl { dropped.output with steps := fun q hq => ?_ }
  cases hq
  exact h.output.steps p planned

/-! ### Run planning (R139 to R142) -/

theorem State.adopt_eq (s : State) (plan : Plan) (slot : Slot) (first : FirstSlot) (fallback : Bool) :
    s.adopt plan slot first fallback = { s with
      out := { s.out with plan := some plan, cursor := .head plan.firstOffset } }.post
        (.concealed plan.kind plan.runLength slot.address slot.segment first fallback) := rfl

/-- A plan taken up at the head (R141, R142). -/
theorem Loose.adopt (h : Loose n s) (moving : s.moving = true) {slot : Slot} {rest : List Slot}
    (held : s.store.slots = slot :: rest) {offset : Nat} (inside : offset < Config.pairsPerBlock) (kind : PlanKind)
    (profile : ProfileIndex) (b : Pair) {step : Option Nat} (bounds : ∀ d ∈ step, 8 ≤ d ∧ d ≤ 512)
    (first : FirstSlot) (fallback : Bool) :
    AllKept n (s.adopt (s.newPlan kind offset profile b step) slot first fallback) := by
  obtain ⟨one, whole⟩ := Store.run_length held
  rw [State.adopt_eq]
  refine AllKept.post ?_ rfl
  refine h.seat moving rfl { h.output with steps := ?_ } inside nofun ?_ ?_
  · intro p hp
    cases hp
    exact bounds
  · intro _ _
    rw [held]
    exact List.cons_ne_nil _ _
  · intro p hp
    cases hp
    exact ⟨one, le_rfl, whole, inside⟩

theorem AllKept.beginPlan (h : AllKept n s) {step : Option Nat} (bounds : ∀ d ∈ step, 8 ≤ d ∧ d ≤ 512) :
    AllKept n (s.beginPlan step) := by
  cases step with
  | none => exact h.withGain h.cutOff_follows
  | some d => exact h.withGain (h.fixedFade_follows (bounds d rfl))

theorem Loose.planRun (h : Loose n s) (moving : s.moving = true) {slot : Slot} {rest : List Slot}
    (held : s.store.slots = slot :: rest) {offset : Nat} (inside : offset < Config.pairsPerBlock) (first : FirstSlot) :
    AllKept n (s.planRun slot offset first) := by
  rw [State.planRun]
  dsimp only
  split
  · split
    · exact h.adopt moving held inside _ _ _ (fun _ hd => by cases hd) _ _
    · have passed : Loose n { s with out := { s.out with cursor := .head offset } } := h.withOut rfl { h.output with }
      exact passed.halt moving nofun inside _ _
  · have bounds := fun kind samples step =>
      longStep_bounds (kind := kind) (samples := samples) (step := step)
        (h.tables.fadeCode (s.table.entry slot.segment).profile)
    exact (h.adopt moving held inside _ _ _ (bounds _ _) _ _).beginPlan (bounds _ _)

/-- The after-cut fade-in (R149). -/
theorem Loose.takeAfterCut (h : Loose n s) (moving : s.moving = true) : Loose n s.takeAfterCut := by
  obtain ⟨target, low⟩ := h.raisedTarget moving
  rw [State.takeAfterCut]
  split
  · exact (h.withGain (g := s.afterCutFadeIn.gain) { h.gain with
      target := target
      step := h.tables.currentStep
      low := low
      still := id }).withOut rfl { h.output with }
  · exact h

@[simp] theorem State.takeAfterCut_tray (s : State) : s.takeAfterCut.tray = s.tray := by
  rw [State.takeAfterCut]; split <;> rfl
@[simp] theorem State.takeAfterCut_play (s : State) : s.takeAfterCut.out.play = s.out.play := by
  rw [State.takeAfterCut]; split <;> rfl
@[simp] theorem State.takeAfterCut_plan (s : State) : s.takeAfterCut.out.plan = s.out.plan := by
  rw [State.takeAfterCut]; split <;> rfl
@[simp] theorem State.takeAfterCut_moving (s : State) : s.takeAfterCut.moving = s.moving := by
  simp [State.moving, State.beforeSave]

/-- The slot at the head becomes the head for output (R117). -/
theorem AllKept.becomeHead (h : AllKept n s) (moving : s.moving = true) : AllKept n s.becomeHead := by
  have apart := State.apart_of_moving moving
  rw [State.becomeHead]
  split
  · exact h
  · rename_i slot rest held
    have entered := h.toLoose.enterSegment slot s.out.startOffset
    have moves : (s.enterSegment slot s.out.startOffset).moving = true := (State.enterSegment_moving _ _ _).trans moving
    have slots : (s.enterSegment slot s.out.startOffset).store.slots = slot :: rest := by
      rw [State.enterSegment_store, held]
    have plans : (s.enterSegment slot s.out.startOffset).out.plan = s.out.plan := by rw [State.enterSegment_out]
    have count : (s.enterSegment slot s.out.startOffset).store.count = s.store.count := by rw [State.enterSegment_store]
    dsimp only
    generalize s.enterSegment slot s.out.startOffset = t at entered moves slots plans count
    split
    · refine entered.seat moves rfl { entered.output with } h.output.start nofun (fun _ _ => by simp [slots]) ?_
      intro p hp
      rw [count]
      exact h.plan p (plans ▸ hp) apart.halted
    · rename_i none
      have cut := entered.takeAfterCut moves
      have cutMoves : t.takeAfterCut.moving = true := (State.takeAfterCut_moving t).trans moves
      have cutSlots : t.takeAfterCut.store.slots = slot :: rest := by rw [State.takeAfterCut_store, slots]
      have cutPlan : t.takeAfterCut.out.plan = Option.none := by rw [State.takeAfterCut_plan, none]
      have planned (first : FirstSlot) := cut.planRun cutMoves cutSlots h.output.start first
      have read {pairs : List Pair} (good : t.takeAfterCut.store.readBlock 0 = some pairs) :
          AllKept n { t.takeAfterCut with
            out := { t.takeAfterCut.out with buffer := pairs, cursor := .head s.out.startOffset } } := by
        refine cut.seat cutMoves rfl { cut.output with buffer := .inr (Store.readBlock_length good) }
          h.output.start nofun (fun _ _ => by simp [cutSlots]) ?_
        intro p hp
        rw [cutPlan] at hp
        cases hp
      split
      iterate 2
        split
        · exact read ‹_›
        · exact planned _
      iterate 2 exact planned _

end

end Sys2Proof.Machine
end

section
/-! SUPPORT. The sample period and the tray keep the laws. -/

namespace Sys2Proof.Machine

section
variable {n : Nat} {s : State}

/-! ### The pair handed on (R113, R143 to R149) -/

/-- A change of a plan that leaves its run and its step as they are. -/
structure Plan.Steady (f : Plan → Plan) : Prop where
  left : ∀ p, (f p).left = p.left
  runLength : ∀ p, (f p).runLength = p.runLength
  firstOffset : ∀ p, (f p).firstOffset = p.firstOffset
  fadeStep : ∀ p, (f p).fadeStep = p.fadeStep

theorem Plan.Steady.held {f : Plan → Plan} (h : Plan.Steady f) {p : Plan} {count : Nat} (run : p.Held count) :
    (f p).Held count :=
  ⟨by rw [h.left]; exact run.more, by rw [h.left, h.runLength]; exact run.inside, by rw [h.left]; exact run.held,
    by rw [h.firstOffset]; exact run.offset⟩

theorem Output.Ranged.mapPlan {o : Output} (h : o.Ranged n) {f : Plan → Plan} (steady : Plan.Steady f) :
    ({ o with plan := o.plan.map f } : Output).Ranged n :=
  { h with
    steps := fun p hp => by
      obtain ⟨q, hq, rfl⟩ := Option.map_eq_some_iff.1 hp
      rw [steady.fadeStep]
      exact h.steps q hq }

theorem Seated.mapPlan (h : Seated n s) {f : Plan → Plan} (steady : Plan.Steady f) :
    Seated n { s with out := { s.out with plan := s.out.plan.map f } } :=
  { h with
    toLoose := h.toLoose.withOut rfl (h.output.mapPlan steady)
    waits := fun it => have ⟨waiting, away⟩ := h.waits it; ⟨waiting, congrArg (Option.map f) away⟩
    plan := fun p hp live => by
      obtain ⟨q, hq, rfl⟩ := Option.map_eq_some_iff.1 hp
      exact steady.held (h.plan q hq live) }

/-- A cut fade requested (R149). -/
theorem Seated.requestCut (h : Seated n s) (off : Nat) : Seated n (s.requestCut off) := by
  rw [State.requestCut]
  split
  · exact h
  · split
    · dsimp only
      refine Seated.mapPlan ?_ ⟨fun _ => rfl, fun _ => rfl, fun _ => rfl, fun _ => rfl⟩
      split
      · exact h.withGain (h.fixedFade_follows (cutStep_bounds _))
      · exact h
    · exact h

@[simp] theorem State.requestCut_play (s : State) (off : Nat) : (s.requestCut off).out.play = s.out.play := by
  rw [State.requestCut]
  split
  · rfl
  · split
    · dsimp only; split <;> rfl
    · rfl
@[simp] theorem State.requestCut_tray (s : State) (off : Nat) : (s.requestCut off).tray = s.tray := by
  rw [State.requestCut]
  split
  · rfl
  · split
    · dsimp only; split <;> rfl
    · rfl
@[simp] theorem State.requestCut_moving (s : State) (off : Nat) : (s.requestCut off).moving = s.moving := by
  simp [State.moving, State.beforeSave]

theorem cursorAfter_offset (off : Nat) : (cursorAfter off).offset < Config.pairsPerBlock := by
  rw [cursorAfter]
  split
  · assumption
  · exact (by decide : 479 < Config.pairsPerBlock)

/-- The cursor handed on stands over the same block (R112, R113). -/
theorem Seated.handOn (h : Seated n s) (moving : s.moving = true) :
    Seated n s.handOn.2 ∧ s.handOn.2.moving = true := by
  have apart := State.apart_of_moving moving
  rw [State.handOn, if_pos moving]
  split
  · rename_i off _
    have cut := h.requestCut off
    have moves : (s.requestCut off).moving = true := (State.requestCut_moving s off).trans moving
    have live : (s.requestCut off).out.play ≠ .halted := by rw [State.requestCut_play]; exact apart.halted
    have held : (s.requestCut off).store.slots ≠ [] := by
      rw [show (s.requestCut off).store = s.store from congrArg FillView.store (s.requestCut_view off)]
      refine h.held apart.halted ?_ ?_ <;> rw [‹s.out.cursor = _›] <;> nofun
    dsimp only
    split
    · exact ⟨cut.toLoose.seated moves rfl { cut.output with } (cursorAfter_offset off) (fun _ _ => held)
        fun p hp => cut.plan p hp live, moves⟩
    · rename_i p planned
      split
      · exact ⟨cut, moves⟩
      · refine ⟨cut.toLoose.seated moves rfl { cut.output with steps := fun q hq => ?_ } (cursorAfter_offset off)
          (fun _ _ => held) fun q hq => ?_, moves⟩
        · cases hq
          exact cut.output.steps p planned
        · cases hq
          exact { cut.plan p planned live with }
  · exact ⟨h, moving⟩

/-- Where the cursor does not move nothing is handed on but a pair. -/
theorem State.handOn_still (still : s.moving = false) : s.handOn.2 = s := by
  rw [State.handOn, if_neg (by rw [still]; decide)]
  split <;> rfl

/-! ### The Gain Unit's part of a period (R133, R134) -/

theorem moveFade_le {g target step bound : Nat} (hg : g ≤ bound) (ht : target ≤ bound) :
    moveFade g target step ≤ bound := by
  rw [moveFade]; split_ifs <;> omega

theorem moveFade_silent {g target : Nat} (step : Nat) (hg : g = 0) (ht : target = 0) : moveFade g target step = 0 := by
  rw [hg, ht]; rfl

theorem not_quiet_playing (t : TrayState) : ¬ Quiet .playing t := by
  rintro (it | it | it | it | ⟨it, -⟩) <;> cases it

theorem not_holds_playing (t : TrayState) : ¬ Holds .playing t := by
  rintro (it | it | it | ⟨it, -⟩) <;> cases it

theorem Seated.sound (h : Seated n s) (pair : Pair) : Seated n (s.sound pair) := by
  have planned := h.mapPlan (f := fun p => if s.moving = true ∧ p.kind = .fade
      ∧ moveFade s.gain.fade s.gain.target s.gain.step = 0 then { p with fadedOut := true } else p)
    ⟨fun _ => by split <;> rfl, fun _ => by split <;> rfl, fun _ => by split <;> rfl, fun _ => by split <;> rfl⟩
  have target : s.gain.target ≤ Config.unity := h.gain.target.elim (·.le.trans (Nat.zero_le _)) (·.le)
  exact { planned with
    toKept := h.toKept.of_view rfl
    gain := { h.gain with fade := moveFade_le h.gain.fade target }
    silent := fun quiet => moveFade_silent _ (h.silent quiet)
      (h.target fun it => not_quiet_playing s.tray.state (it ▸ quiet))
    output := { planned.output with } }

theorem AllKept.sound (h : AllKept n s) (pair : Pair) : AllKept n (s.sound pair) :=
  { h.toSeated.sound pair with
    finished := fun done => by
      obtain ⟨mute, holds⟩ := h.finished done
      exact ⟨moveFade_silent _ mute (h.target fun it => not_holds_playing s.tray.state (it ▸ holds)), holds⟩ }

/-! ### The sample period (R113, R117, R118, R122) -/

theorem AllKept.counted (h : AllKept n s) : AllKept (n + 1) s.counted :=
  { h with
    toKept := h.toKept.of_view rfl
    output := { h.output with samples := Nat.succ_le_succ h.output.samples } }

/-- A finished block is consumed, or a fade has just completed and holds the consume back. -/
theorem Seated.settle (h : Seated n s) (moving : s.moving = true) :
    AllKept n (if s.blockDone ∧ s.completionDue = false then s.boundary else s) := by
  split
  · exact h.boundary moving
  · rename_i holds
    refine { h with finished := fun done => ?_ }
    have due : s.completionDue = true := by
      rw [State.blockDone, moving, done, not_and, Bool.not_eq_false] at holds
      exact holds rfl
    obtain ⟨other, mute⟩ := (State.completionDue_iff moving).1 due
    refine ⟨mute, .inr ?_⟩
    exact ((State.moving_iff s).1 moving).resolve_left other

theorem AllKept.period (h : AllKept n s) : AllKept (n + 1) s.period := by
  have headed : AllKept n (if s.headDue then s.becomeHead else s) := by
    split
    · rename_i due
      rw [State.headDue, Bool.and_eq_true] at due
      exact h.becomeHead due.1
    · exact h
  rw [State.period]
  generalize (if s.headDue then s.becomeHead else s) = t at headed
  refine AllKept.counted ?_
  cases moving : t.moving with
  | true =>
    obtain ⟨handed, moves⟩ := headed.toSeated.handOn moving
    exact (handed.sound t.handOn.1).settle moves
  | false =>
    have still := State.handOn_still moving
    have done : (t.handOn.2.sound t.handOn.1).blockDone = false := by
      rw [still, State.blockDone, show (t.sound _).moving = t.moving from rfl, moving]; rfl
    rw [done, if_neg (by simp), still]
    exact headed.sound _

/-! ### The Resume Table (R172, R186) -/

theorem RecordsSound.filter {l : List ResumeRecord} (h : RecordsSound l) {p : ResumeRecord → Bool} :
    RecordsSound (l.filter p) :=
  ⟨(List.length_filter_le ..).trans h.size, h.apart.filter _, fun r hr => h.ranges r (List.mem_filter.1 hr).1⟩

/-- A record put in front of those with other fingerprints, in a table cut to its size. -/
theorem RecordsSound.front {l : List ResumeRecord} (h : RecordsSound l) {r : ResumeRecord} (level : r.level ≤ 63)
    (offset : r.position.offset < Config.pairsPerBlock) (address : r.position.address < Config.addressCount) :
    (r :: l.filter (fun x => x.fingerprint != r.fingerprint)).Pairwise (fun x y => x.fingerprint ≠ y.fingerprint)
      ∧ ∀ x ∈ r :: l.filter (fun x => x.fingerprint != r.fingerprint), x.level ≤ 63
        ∧ x.position.offset < Config.pairsPerBlock ∧ x.position.address < Config.addressCount := by
  refine ⟨List.pairwise_cons.2 ⟨fun x hx => ?_, h.filter.apart⟩, fun x hx => ?_⟩
  · have := (List.mem_filter.1 hx).2
    rw [bne_iff_ne] at this
    exact this.symm
  · rcases List.mem_cons.1 hx with rfl | hx
    · exact ⟨level, offset, address⟩
    · exact h.filter.ranges x hx

theorem RecordsSound.insert {l : List ResumeRecord} (h : RecordsSound l) {r : ResumeRecord} (level : r.level ≤ 63)
    (offset : r.position.offset < Config.pairsPerBlock) (address : r.position.address < Config.addressCount) :
    RecordsSound (insertRecord l r) := by
  obtain ⟨apart, ranges⟩ := h.front level offset address
  exact ⟨List.length_take_le _ _, apart.sublist (List.take_sublist _ _), fun x hx => ranges x (List.mem_of_mem_take hx)⟩

theorem RecordsSound.use {l : List ResumeRecord} (h : RecordsSound l) {r : ResumeRecord} (mem : r ∈ l) :
    RecordsSound (useRecord l r) := by
  obtain ⟨level, offset, address⟩ := h.ranges r mem
  obtain ⟨apart, ranges⟩ := h.front level offset address
  refine ⟨?_, apart, ranges⟩
  have fewer : (l.filter (fun x => x.fingerprint != r.fingerprint)).length < l.length :=
    List.length_filter_lt_length_iff_exists.2 ⟨r, mem, by simp⟩
  exact Nat.succ_le_of_lt (fewer.trans_le h.size)

/-- Every position a save step can record lies within its ranges (R169). -/
theorem Seated.savePosition (h : Seated n s) :
    s.savePosition.offset < Config.pairsPerBlock ∧ s.savePosition.address < Config.addressCount := by
  have bounded {x : Slot} (hx : x ∈ s.store.slots) : x.address < Config.addressCount :=
    (h.order.within x hx).2.trans_lt (h.tables.entry x.segment).2
  have waiting : s.waitingPosition.offset < Config.pairsPerBlock
      ∧ s.waitingPosition.address < Config.addressCount := by
    rw [State.waitingPosition]
    split
    · rename_i held
      exact ⟨h.output.start, bounded (by rw [held]; exact List.mem_cons_self ..)⟩
    · exact ⟨h.output.start, h.expected⟩
  rw [State.savePosition]
  split
  · split
    · rename_i second
      exact ⟨zero_lt_pairs, bounded (List.mem_of_getElem? second)⟩
    · exact ⟨zero_lt_pairs, h.expected⟩
  all_goals rw [State.cursorPosition, ‹s.out.cursor = _›]
  · have offset := h.offset
    rw [‹s.out.cursor = _›] at offset
    exact ⟨offset, waiting.2⟩
  all_goals exact waiting

/-! ### The save step and the STOP completion (R124, R168, R170) -/

theorem AllKept.save (h : AllKept n s) (hold : s.out.play = .trayHold) (mute : s.gain.fade = 0) : AllKept n s.save := by
  obtain ⟨offset, address⟩ := h.toSeated.savePosition
  have left : trayAfterFade s.tray.line ≠ .fading := by cases s.tray.line <;> decide
  have running : s.out.play ≠ .halted := by rw [hold]; decide
  have tray : s.save.tray.Sound .trayHold := {
    high := fun it => by
      change trayAfterFade s.tray.line = _ ∨ trayAfterFade s.tray.line = _ ∨ trayAfterFade s.tray.line = _ at it
      change s.tray.line = .high
      cases line : s.tray.line with
      | high => rfl
      | low => simp [line, trayAfterFade] at it
    low := fun it => by
      change trayAfterFade s.tray.line = _ at it
      change s.tray.line = .low
      cases line : s.tray.line with
      | low => rfl
      | high => simp [line, trayAfterFade] at it
    fading := fun it => absurd it left
    hold := fun _ => by change trayAfterFade s.tray.line ≠ _; cases s.tray.line <;> decide
    saved := iff_of_true rfl ⟨rfl, left⟩
    named := nofun
    edges := h.tray.edges }
  exact {
    toKept := h.toKept.save running
    gain := { h.gain with }
    target := h.target
    silent := fun _ => mute
    queue := h.queue
    records := by
      simp only [State.save]
      cases s.tray.fingerprint with
      | none => exact h.records
      | some f => exact h.records.insert h.gain.applied offset address
    tray := by rw [show s.save.out.play = .trayHold from hold]; exact tray
    output := ⟨zero_lt_pairs, h.output.samples, .inl rfl, nofun⟩
    empty := fun _ => ⟨rfl, rfl⟩
    offset := zero_lt_pairs
    held := fun _ _ it => absurd rfl it
    idle := fun _ => rfl
    parked := fun _ => rfl
    waits := fun it => by rw [show s.save.out.play = .trayHold from hold] at it; simp at it
    plan := nofun
    finished := nofun }

theorem AllKept.completeStop (h : AllKept n s) (running : s.out.play ≠ .halted) (hold : s.out.play ≠ .trayHold)
    (mute : s.gain.fade = 0) : AllKept n s.completeStop := by
  have unsaved : s.tray.saved = none := by
    rw [← Option.not_isSome_iff_eq_none, h.tray.saved]
    exact fun it => hold it.1
  have tray : s.completeStop.tray = { s.tray.leaveFading with saved := none } := by
    change s.tray.leaveFading = _
    rw [Tray.leaveFading]
    split <;> rw [← unsaved]
  exact {
    toKept := h.toKept.completeStop running
    gain := { h.gain with target := .inl rfl, step := h.tables.currentStep }
    target := fun _ => rfl
    silent := fun _ => mute
    queue := h.queue.mono (absurd · running)
    records := by
      have same : s.completeStop.tray.records = s.tray.records := by rw [tray, Tray.leaveFading]; split <;> rfl
      rw [same]
      exact h.records
    tray := by rw [tray]; exact h.tray.leaveFading nofun
    output := ⟨zero_lt_pairs, h.output.samples, .inl rfl, nofun⟩
    empty := fun parked => nomatch parked.1
    offset := zero_lt_pairs
    held := fun _ _ it => absurd rfl it
    idle := fun _ => rfl
    parked := fun _ => rfl
    waits := fun it => by rcases it with it | it <;> cases it
    plan := nofun
    finished := nofun }

/-! ### Edges of the tray line (R162 to R167) -/

/-- A move of the tray that does not enter or leave FADING in TRAY_HOLD. -/
theorem AllKept.withTray (h : AllKept n s) {tr : Tray} (sound : tr.Sound s.out.play) (records : RecordsSound tr.records)
    (steady : s.out.play = .trayHold → (tr.state = .fading ↔ s.tray.state = .fading)) :
    AllKept n { s with tray := tr } := by
  have parks (it : Parked s.out.play tr.state) : Parked s.out.play s.tray.state :=
    ⟨it.1, fun fades => it.2 ((steady it.1).2 fades)⟩
  exact { h with
    toKept := h.toKept.of_view rfl
    silent := fun quiet => h.silent (quiet.imp_right fun it => it.imp_right fun it => it.imp_right fun it =>
      it.imp_right parks)
    records := records
    tray := sound
    empty := fun it => h.empty (parks it)
    parked := fun it => h.parked (parks it)
    finished := fun done => (h.finished done).imp_right fun it => it.imp_right fun it => it.imp_right fun it =>
      it.imp_right fun it => ⟨it.1, (steady it.1).2 it.2⟩ }

/-- The tray fade begun (R166). -/
theorem AllKept.holdTray (h : AllKept n s) {tr : Tray} (running : s.out.play ≠ .halted) (fades : tr.state = .fading)
    (unsaved : tr.saved = none) (records : RecordsSound tr.records) (edges : tr.edges ≤ 255) :
    AllKept n ({ s with tray := tr }.enter .trayHold) := by
  have fading : ¬ Parked .trayHold tr.state := fun it => it.2 fades
  exact {
    toKept := (h.toKept.of_view rfl : Kept False { s with tray := tr }).enter running (by decide)
    gain := { h.gain with target := .inl rfl, step := h.tables.currentStep }
    target := fun _ => rfl
    silent := by
      rintro (it | it | it | it | it)
      iterate 4 cases it
      exact absurd it fading
    queue := h.queue.mono (absurd · running)
    records := records
    tray := {
      high := fun it => by
        change tr.state = _ ∨ tr.state = _ ∨ tr.state = _ at it
        simp [fades] at it
      low := fun it => by cases fades.symm.trans it
      fading := fun _ => .inl rfl
      hold := fun _ it => by cases fades.symm.trans it
      saved := iff_of_false (by change ¬ tr.saved.isSome = true; simp [unsaved]) fading
      named := fun _ => .inr fades
      edges := edges }
    output := { h.output with }
    empty := fun it => absurd it fading
    offset := h.offset
    held := fun _ => h.held running
    idle := nofun
    parked := fun it => absurd it fading
    waits := fun it => by rcases it with it | it <;> cases it
    plan := fun p hp _ => h.plan p hp running
    finished := fun done => ⟨(h.finished done).1, .inr (.inr (.inr ⟨rfl, fades⟩))⟩ }

/-- Nothing is saved while the tray is CLOSED (R125). -/
theorem Tray.Sound.unsaved_of_closed {tr : Tray} {p : PlayState} (h : tr.Sound p) (closed : tr.state = .closed) :
    p ≠ .trayHold ∧ tr.saved = none := by
  have hold : p ≠ .trayHold := fun it => h.hold it closed
  refine ⟨hold, ?_⟩
  rw [← Option.not_isSome_iff_eq_none, h.saved]
  exact fun it => hold it.1

/-- The tray open with the line low and no disc named (R166, R171). -/
theorem Tray.Sound.openLow {tr : Tray} {p : PlayState} (low : tr.line = .low) (opened : tr.state = .opened)
    (saved : tr.saved.isSome = true ↔ Parked p .opened) (unnamed : tr.fingerprint = none) (edges : tr.edges ≤ 255) :
    tr.Sound p :=
  ⟨by simp [opened], fun _ => low, by simp [opened], by simp [opened], by rw [opened]; exact saved, by simp [unnamed],
    edges⟩

theorem Tray.takeEdge_edges (tr : Tray) (line : TrayLine) : (tr.takeEdge line).edges ≤ 255 := Nat.min_le_right _ _

/-- An open edge in CLOSED (R166). -/
theorem AllKept.openFromClosed (h : AllKept n s) (closed : s.tray.state = .closed) :
    AllKept n ({ s with tray := s.tray.takeEdge .low } : State).openFromClosed := by
  obtain ⟨hold, unsaved⟩ := h.tray.unsaved_of_closed closed
  have edges := s.tray.takeEdge_edges .low
  have fades (running : s.out.play ≠ .halted) : AllKept n
      (let t := { s with tray := { s.tray.takeEdge .low with state := .fading } }.enter .trayHold
        if t.gain.fade = 0 then t.save else t) := by
    have held : AllKept n ({ s with tray := { s.tray.takeEdge .low with state := .fading } }.enter .trayHold) :=
      h.holdTray running rfl unsaved h.records edges
    dsimp only
    split
    · exact held.save rfl ‹_›
    · exact held
  have opened (other : s.out.play ≠ .trayHold) : AllKept n { s with
      tray := { s.tray.takeEdge .low with state := .opened, fingerprint := none } } :=
    h.withTray
      (Tray.Sound.openLow rfl rfl (iff_of_false (by simp [Tray.takeEdge, unsaved]) fun it => other it.1) rfl edges)
      h.records fun it => absurd it other
  rw [State.openFromClosed]
  split
  iterate 5 (next play => exact fades (by rw [show s.out.play = _ from play]; decide))
  · rename_i stopping
    refine h.withTray ⟨by simp, nofun, fun _ => .inr stopping, fun it => absurd it hold, ?_, fun _ => .inr rfl, edges⟩
      h.records fun it => absurd it hold
    exact iff_of_false (by simp [Tray.takeEdge, unsaved]) fun it => hold it.1
  iterate 2 exact opened hold
  · exact absurd ‹_› hold

/-- What lies beside the output, the gain, the tray, the reports and the slots may change as the fill's laws allow. -/
theorem AllKept.aside {t : State} (h : AllKept n s) (kept : Kept False t)
    (moves : FillMoves s t := by exact .same rfl rfl rfl rfl rfl)
    (rests : Rests s t := by exact ⟨id, fun _ => rfl⟩) : AllKept n t := h.of_moves kept moves rests

theorem AllKept.postTray (h : AllKept n s) : AllKept n s.postTray := h.post rfl

/-- An open edge (R162, R166, R167). -/
theorem AllKept.takeOpenEdge (h : AllKept n s) : AllKept n s.takeOpenEdge := by
  have edges := s.tray.takeEdge_edges .low
  rw [State.takeOpenEdge]
  split
  · exact h
  · rename_i high
    refine AllKept.postTray ?_
    have opened (unnamed : s.tray.fingerprint = none) (other : s.tray.state ≠ .fading) : AllKept n { s with
        tray := { s.tray.takeEdge .low with state := .opened } } := by
      refine h.withTray (Tray.Sound.openLow rfl rfl (h.tray.saved.trans ?_) unnamed edges) h.records
        fun _ => iff_of_false nofun other
      exact ⟨fun it => ⟨it.1, nofun⟩, fun it => ⟨it.1, other⟩⟩
    have unnamed (closed : s.tray.state ≠ .closed) (fading : s.tray.state ≠ .fading) : s.tray.fingerprint = none := by
      rw [← Option.not_isSome_iff_eq_none]
      exact fun it => (h.tray.named it).elim closed fading
    dsimp only
    split
    · exact h.openFromClosed ‹_›
    · rename_i settling
      change s.tray.state = _ at settling
      have now := opened (unnamed (by rw [settling]; decide) (by rw [settling]; decide)) (by rw [settling]; decide)
      exact now.aside (now.toKept.of_view rfl)
    · rename_i waits
      change s.tray.state = _ at waits
      exact opened (unnamed (by rw [waits]; decide) (by rw [waits]; decide)) (by rw [waits]; decide)
    · rename_i fading
      change s.tray.state = _ at fading
      exact h.withTray { h.tray with
        high := fun it => by change s.tray.state = _ ∨ s.tray.state = _ ∨ s.tray.state = _ at it; simp [fading] at it
        low := fun _ => rfl
        edges := edges } h.records fun _ => Iff.rfl
    · rename_i opened
      have low := h.tray.low opened
      rw [high] at low
      cases low

/-- A close edge (R162, R167). -/
theorem AllKept.takeCloseEdge (h : AllKept n s) : AllKept n s.takeCloseEdge := by
  have edges := s.tray.takeEdge_edges .high
  rw [State.takeCloseEdge]
  split
  · exact h
  · refine AllKept.postTray ?_
    have cleared : AllKept n { s with timer := s.timer.clear } := h.aside h.toKept.clearTimer
    have steady (other : s.tray.state ≠ .opened) : AllKept n { s with
        timer := s.timer.clear, tray := s.tray.takeEdge .high } :=
      cleared.withTray { h.tray with
        high := fun _ => rfl
        low := fun it => absurd it other
        edges := edges } h.records fun _ => Iff.rfl
    dsimp only
    split
    · rename_i opened
      change s.tray.state = _ at opened
      have unnamed : s.tray.fingerprint = none := by
        rw [← Option.not_isSome_iff_eq_none]
        exact fun it => by simpa [opened] using h.tray.named it
      refine cleared.withTray (tr := { s.tray.takeEdge .high with state := .settling })
        ⟨fun _ => rfl, nofun, nofun, fun _ => nofun, h.tray.saved.trans ?_, ?_, edges⟩ h.records
        fun _ => iff_of_false nofun (by rw [show s.tray.state = _ from opened]; decide)
      · exact ⟨fun it => ⟨it.1, nofun⟩, fun it => ⟨it.1, by rw [opened]; decide⟩⟩
      · simp [Tray.takeEdge, unnamed]
    all_goals
      exact steady (by rw [show s.tray.state = _ from ‹_›]; decide)

end

end Sys2Proof.Machine
end

section
/-! SUPPORT. The part's own events keep the laws, and with them every sample period. -/

namespace Sys2Proof.Machine

section
variable {n : Nat} {s : State}

/-! ### Events -/

theorem AllKept.mono {m : Nat} (h : AllKept n s) (more : n ≤ m) : AllKept m s :=
  { h with output := { h.output with samples := h.output.samples.trans more } }

theorem moveLevel_le {applied requested : Nat} (ha : applied ≤ 63) (hr : requested ≤ 63) :
    moveLevel applied requested ≤ 63 := by
  rw [moveLevel]; split_ifs <;> omega

/-- The end of a block period, after which fewer than 480 sample periods are counted (R113, R136, R153). -/
theorem AllKept.takePeriodEnd (h : AllKept Config.pairsPerBlock s) : AllKept 479 s.takePeriodEnd := by
  have kept := h.toKept.takePeriodEnd
  rw [State.takePeriodEnd] at kept ⊢
  split
  · rename_i due
    rw [if_pos due] at kept
    exact { h with
      toKept := kept
      gain := { h.gain with applied := moveLevel_le h.gain.applied h.gain.requested }
      output := { h.output with samples := Nat.zero_le _ } }
  · rename_i low
    rw [State.periodEndDue, decide_eq_true_iff] at low
    exact { h with output := { h.output with samples := Nat.le_of_lt_succ (Nat.lt_of_not_le low) } }

theorem AllKept.takeSettleEnd (h : AllKept n s) : AllKept n s.takeSettleEnd := by
  have taken : AllKept n { s with timer := { s.timer with settleDue := false } } := h.aside (h.toKept.of_view rfl)
  rw [State.takeSettleEnd]
  split
  · dsimp only
    split
    · rename_i settling
      change s.tray.state = _ at settling
      refine taken.withTray { h.tray with
        high := fun _ => h.tray.high (.inr (.inl settling))
        low := nofun
        fading := nofun
        hold := fun _ => nofun
        saved := h.tray.saved.trans ⟨fun it => ⟨it.1, nofun⟩, fun it => ⟨it.1, by rw [settling]; decide⟩⟩
        named := fun it => by simpa [settling] using h.tray.named it } h.records
        fun _ => iff_of_false nofun (by change s.tray.state ≠ _; rw [settling]; decide)
    · exact taken
  · exact h

theorem AllKept.takePeriodicPosition (h : AllKept n s) : AllKept n s.takePeriodicPosition := by
  have taken : AllKept n { s with timer := { s.timer with positionDue := false } } := h.aside (h.toKept.of_view rfl)
  rw [State.takePeriodicPosition]
  split
  · dsimp only
    split
    · exact taken.post rfl
    · exact taken
  · exact h

theorem AllKept.takeDropped (h : AllKept n s) : AllKept n s.takeDropped := by
  rw [State.takeDropped]
  split
  · rename_i due
    simp only [State.dropDue, Bool.and_eq_true] at due
    obtain ⟨⟨moving, -⟩, drop⟩ := due
    cases planned : s.out.plan with
    | none => rw [planned] at drop; cases drop
    | some p => exact h.toLoose.dropPlan moving planned
  · exact h

theorem PlayState.open_playing : PlayState.playing.Open := ⟨nofun, by simp, nofun, nofun⟩
theorem PlayState.open_pausing : PlayState.pausing.Open := ⟨nofun, by simp, nofun, nofun⟩
theorem PlayState.open_paused : PlayState.paused.Open := ⟨nofun, by simp, nofun, nofun⟩
theorem PlayState.open_stopping : PlayState.stopping.Open := ⟨nofun, by simp, nofun, nofun⟩

theorem AllKept.takePausedEntry (h : AllKept n s) : AllKept n s.takePausedEntry := by
  rw [State.takePausedEntry]
  split
  · rename_i due
    obtain ⟨pausing, mute⟩ := due
    refine h.enter PlayState.open_paused ?_ ?_ ?_ (fun _ => mute) (.inr (.inl rfl)) <;> rw [pausing] <;> decide
  · exact h

theorem AllKept.takeStopCompletion (h : AllKept n s) : AllKept n s.takeStopCompletion := by
  rw [State.takeStopCompletion]
  split
  · rename_i due
    obtain ⟨stopping, mute⟩ := due
    exact h.completeStop (by rw [stopping]; decide) (by rw [stopping]; decide) mute
  · exact h

theorem AllKept.takeSaveStep (h : AllKept n s) : AllKept n s.takeSaveStep := by
  rw [State.takeSaveStep]
  split
  · rename_i due
    obtain ⟨before, mute⟩ := due
    simp only [State.beforeSave, Bool.and_eq_true, beq_iff_eq] at before
    exact h.save before.1 mute
  · exact h

/-- The start test passes with a slot held (R18, R116). -/
theorem Kept.slots_of_startTest {P : Prop} (h : Kept P s) (passed : s.startTest = true) : s.store.slots ≠ [] := by
  have low := h.store.start_low
  rw [← List.length_pos_iff]
  rcases (State.startTest_iff s).1 passed with enough | ⟨one, -⟩ <;> omega

/-- PLAYING begun with the head slot next (R116, R120). -/
theorem AllKept.beginPlaying (h : AllKept n s) (waits : s.out.play = .priming ∨ s.out.play = .starved)
    (passed : s.startTest = true) : AllKept n s.beginPlaying := by
  obtain ⟨-, unplanned⟩ := h.waits waits
  have apart : s.out.play ≠ .halted ∧ s.out.play ≠ .trayHold ∧ s.out.play ≠ .stopping := by
    rcases waits with it | it <;> rw [it] <;> decide
  obtain ⟨running, hold, stop⟩ := apart
  have entered := h.toSeated.enter PlayState.open_playing running hold stop nofun
  exact entered.toLoose.seat (o := { (s.enter .playing).out with cursor := .next }) rfl rfl { entered.output with }
    zero_lt_pairs nofun (fun _ _ => h.slots_of_startTest passed) fun _ hp => by cases unplanned.symm.trans hp

theorem AllKept.takeStartTest (h : AllKept n s) : AllKept n s.takeStartTest := by
  rw [State.takeStartTest]
  split
  · rename_i due
    exact h.beginPlaying (.inl due.1) due.2
  · exact h

theorem AllKept.takeStarvedRecovery (h : AllKept n s) : AllKept n s.takeStarvedRecovery := by
  rw [State.takeStarvedRecovery]
  split
  · rename_i due
    exact h.beginPlaying (.inr due.1) due.2.2
  · exact h

/-- Whatever is due, taken (log 2). -/
theorem AllKept.takeDue (h : AllKept Config.pairsPerBlock s) : AllKept 479 s.takeDue :=
  h.takePeriodEnd.takeExpiry.takeSettleEnd.takePeriodicPosition
    |>.takeDropped.takePausedEntry.takeStopCompletion.takeSaveStep
    |>.takeRefill.takePlaceholderRun.takeStartTest.takeStarvedRecovery

theorem AllKept.upset (h : AllKept n s) (changes : List (Nat × Byte)) : AllKept n (s.upset changes) :=
  h.aside (h.toKept.upset nofun)

end

end Sys2Proof.Machine
end

section
/-! SUPPORT. The commands and the table loads keep the laws of the gain, the reports, the tray and the output. -/

namespace Sys2Proof.Machine

section
variable {n : Nat} {s : State}

/-! ### Commands -/

theorem AllKept.commanded (h : AllKept n s) (code : Byte) (form : Bool) {t : State}
    (handled : s.out.play ≠ .halted → AllKept n t) : AllKept n (s.commanded code form t) := by
  rw [State.commanded]
  split
  · exact h.answer _ _ _
  · rename_i running
    split
    · exact handled running
    · exact h.answer _ _ _

theorem AllKept.loaded (h : AllKept n s) (format : Byte) (length : Bool) {t : State}
    (handled : s.out.play ≠ .halted → AllKept n t) : AllKept n (s.loaded format length t) := by
  rw [State.loaded]
  split
  · exact h.answer _ _ _
  · rename_i running
    split
    · exact handled running
    · exact h.answer _ _ _

/-- A fill started afresh from the tray in CLOSED (R68, R115). -/
theorem AllKept.startAt (h : AllKept n s) (closed : s.tray.state = .closed) (running : s.out.play ≠ .halted)
    {pos : Position} (low : (s.table.entry pos.segment).first ≤ pos.address)
    (high : pos.address ≤ (s.table.entry pos.segment).last) (inside : pos.offset < Config.pairsPerBlock)
    {reason : Reason} (plain : reason ≠ .repair) : AllKept n (s.startAt pos reason) := by
  obtain ⟨hold, unsaved⟩ := h.tray.unsaved_of_closed closed
  exact {
    toKept := h.toKept.startAt low high plain
    gain := { h.gain with fade := Nat.zero_le _, target := .inl rfl }
    target := fun _ => rfl
    silent := fun _ => rfl
    queue := h.queue.mono (absurd · running)
    records := h.records
    tray := { h.tray with
      fading := fun it => by cases closed.symm.trans it
      hold := nofun
      saved := iff_of_false (by change ¬ s.tray.saved.isSome = true; simp [unsaved]) fun it => nomatch it.1 }
    output := ⟨inside, h.output.samples, .inl rfl, nofun⟩
    empty := fun parked => nomatch parked.1
    offset := zero_lt_pairs
    held := fun _ it => absurd rfl it
    idle := nofun
    parked := fun parked => nomatch parked.1
    waits := fun _ => ⟨rfl, rfl⟩
    plan := nofun
    finished := nofun }

/-- PLAY (R115). -/
theorem AllKept.playAt (h : AllKept n s) (running : s.out.play ≠ .halted) (segByte : Byte) (address : Option Addr) :
    AllKept n (s.playAt segByte address) := by
  rw [State.playAt]
  split
  · exact h.answer _ _ _
  · rename_i seg _
    dsimp only
    split
    · exact h.answer _ _ _
    · split
      · exact h.answer _ _ _
      · rename_i closed
        refine (h.startAt (not_not.1 closed) running (le_max_left _ _) ?_ zero_lt_pairs (by decide)).answer _ _ _
        exact max_le (h.tables.entry seg).1 (min_le_left _ _)

theorem AllKept.pauseNow (h : AllKept n s) : AllKept n s.pauseNow := by
  rw [State.pauseNow]
  split
  iterate 2
    rename_i play
    refine (h.enter PlayState.open_pausing ?_ ?_ ?_ nofun (.inr (.inr (.inl rfl)))).answer _ _ _ <;>
      rw [play] <;> decide
  all_goals exact h.answer _ _ _

/-- A FADE or a DROP asks for its fade-out again (R150). -/
theorem Seated.turnPlan (h : Seated n s) : Seated n s.turnPlan := by
  have turned {p : Plan} (planned : s.out.plan = some p) {step : Nat} (own : p.fadeStep = some step) :
      Seated n (s.fixedFade step) := h.withGain (h.fixedFade_follows (h.output.steps p planned step own))
  rw [State.turnPlan]
  split
  · exact h
  · rename_i p planned
    split
    · split
      · exact h
      · exact turned planned ‹_›
    · split
      · exact turned planned ‹_›
      · exact h
    · exact h

@[simp] theorem State.turnPlan_out (s : State) : s.turnPlan.out = s.out := by
  rw [State.turnPlan]
  split
  · rfl
  · split
    · split <;> rfl
    · split <;> rfl
    · rfl

/-- No boundary test leaves the cursor finished. -/
theorem State.boundaryTest_going (s : State) : s.boundaryTest.out.cursor ≠ .finished := by
  rw [State.boundaryTest]
  split
  · nofun
  · split
    · split
      · rw [State.endProgram, State.post_out]; nofun
      · rw [State.starve, State.post_out]; nofun
    · nofun

/-- Play going on: a consume that was held back is still to be taken, in PLAYING (R122, R123). -/
theorem AllKept.resumePlay (h : AllKept n s) (paused : s.out.play = .paused ∨ s.out.play = .pausing) :
    Seated n s.resumePlay ∧ (s.resumePlay.out.cursor = .finished → s.resumePlay.moving = true) := by
  have apart : s.out.play ≠ .halted ∧ s.out.play ≠ .trayHold ∧ s.out.play ≠ .stopping := by
    rcases paused with it | it <;> rw [it] <;> decide
  obtain ⟨running, hold, stop⟩ := apart
  have entered := h.toSeated.enter PlayState.open_playing running hold stop nofun
  have turned : Seated n (if s.out.play = .pausing then (s.enter .playing).turnPlan else s.enter .playing) := by
    split
    · exact entered.turnPlan
    · exact entered
  have playing : (if s.out.play = .pausing then (s.enter .playing).turnPlan else s.enter .playing).out.play
      = .playing := by
    split
    · rw [State.turnPlan_out]; rfl
    · rfl
  rw [State.resumePlay]
  generalize (if s.out.play = .pausing then (s.enter .playing).turnPlan else s.enter .playing) = t at turned playing
  have moving : t.moving = true := (State.moving_iff t).2 (.inl playing)
  split
  · exact ⟨(turned.toLoose.boundaryTest moving).toSeated, fun done => absurd done t.boundaryTest_going⟩
  · exact ⟨turned, fun _ => moving⟩

theorem AllKept.resumeNow (h : AllKept n s) : AllKept n s.resumeNow := by
  have resumed (paused : s.out.play = .paused ∨ s.out.play = .pausing) :
      AllKept n (s.resumePlay.done 0x03#8).takeHeldConsume := by
    obtain ⟨seated, moves⟩ := h.resumePlay paused
    have answered : Seated n (s.resumePlay.done 0x03#8) := seated.post rfl
    rw [State.takeHeldConsume]
    split
    · rename_i done
      refine answered.boundary ?_
      rw [State.done, State.answer, State.post_out] at done
      have moving := moves done
      simpa [State.done, State.answer, State.moving, State.beforeSave] using moving
    · rename_i going
      exact { answered with finished := fun done => absurd done going }
  rw [State.resumeNow]
  split
  · exact resumed (.inl ‹_›)
  · exact resumed (.inr ‹_›)
  all_goals exact h.answer _ _ _

theorem AllKept.stopNow (h : AllKept n s) : AllKept n s.stopNow := by
  have stopping (running : s.out.play ≠ .halted) (hold : s.out.play ≠ .trayHold) (stop : s.out.play ≠ .stopping) :
      AllKept n (s.enter .stopping) :=
    h.enter PlayState.open_stopping running hold stop nofun (.inr (.inr (.inr rfl)))
  rw [State.stopNow]
  split
  iterate 3
    rename_i play
    refine (stopping ?_ ?_ ?_).answer _ _ _ <;> rw [play] <;> decide
  · rename_i priming
    have mute : s.gain.fade = 0 := h.silent (.inr (.inl priming))
    refine ((stopping ?_ ?_ ?_).completeStop nofun nofun mute).answer _ _ _ <;> rw [priming] <;> decide
  · rename_i paused
    have mute : s.gain.fade = 0 := h.silent (.inr (.inr (.inl paused)))
    refine (h.completeStop ?_ ?_ mute).answer _ _ _ <;> rw [paused] <;> decide
  all_goals exact h.answer _ _ _

theorem AllKept.setLevel (h : AllKept n s) (code : Byte) : AllKept n (s.setLevel code) :=
  h.withGain { h.gain with requested := Nat.min_le_right _ _, low := h.target, still := id }

theorem AllKept.setStop (h : AllKept n s) (index : Byte) : AllKept n (s.setStop index) := by
  have stops (i : Option SegmentIndex) : AllKept n { s with table := { s.table with stopIndex := i } } :=
    h.aside (h.toKept.of_view rfl)
  rw [State.setStop]
  split
  · exact (stops none).answer _ _ _
  · split
    · exact (stops _).answer _ _ _
    · exact h.answer _ _ _

theorem AllKept.setRepeat (h : AllKept n s) (value : Byte) : AllKept n (s.setRepeat value) := by
  have flagged (b : Bool) : AllKept n { s with table := { s.table with repeatFlag := b } } :=
    h.aside (h.toKept.of_view rfl)
  rw [State.setRepeat]
  split
  · exact (flagged false).answer _ _ _
  · split
    · exact (flagged true).answer _ _ _
    · exact h.answer _ _ _

theorem AllKept.cueNow (h : AllKept n s) : AllKept n s.cueNow := by
  have cued : AllKept n { s with table := { s.table with cueFlag := true } } := h.aside (h.toKept.of_view rfl)
  rw [State.cueNow]
  split
  · exact h.answer _ _ _
  · exact cued.answer _ _ _

/-! ### IDENTIFY (R171, R174 to R177) -/

/-- The tray CLOSED over a disc just named. -/
theorem Tray.Sound.identified {tr : Tray} {p q : PlayState} (h : tr.Sound p) (high : tr.line = .high)
    (other : q ≠ .trayHold) {f : Fingerprint} {records : List ResumeRecord} :
    { tr with fingerprint := some f, state := .closed, records := records, saved := none }.Sound q where
  high := fun _ => high
  low := nofun
  fading := nofun
  hold := fun it => absurd it other
  saved := iff_of_false nofun fun it => other it.1
  named := fun _ => .inl rfl
  edges := h.edges

/-- A resume, or IDLE where none is made (R175, R176). -/
theorem AllKept.decideResume (h : AllKept n s) (hold : s.out.play = .trayHold) (waits : s.tray.state = .awaitId)
    (f : Fingerprint) : AllKept n (s.decideResume f) := by
  have running : s.out.play ≠ .halted := by rw [hold]; decide
  have parked : Parked s.out.play s.tray.state := ⟨hold, by rw [waits]; decide⟩
  have high : s.tray.line = .high := h.tray.high (.inr (.inr waits))
  have mute : s.gain.fade = 0 := h.silent (.inr (.inr (.inr (.inr parked))))
  have away := h.parked parked
  have queue := h.queue.mono (still := False) (absurd · running)
  have kept : Kept False { s with tray := { s.tray with fingerprint := some f, state := .closed } } :=
    h.toKept.of_view rfl
  refine AllKept.post ?_ rfl
  split
  · rename_i r resumed found
    obtain ⟨low, within⟩ := State.resumeOutcome_resumed found resumed
    have mem : r ∈ s.tray.records := List.mem_of_find?_eq_some found
    obtain ⟨level, offset, -⟩ := h.records.ranges r mem
    exact {
      toKept := kept.resumeFrom low within
      gain := ⟨Nat.zero_le _, .inl rfl, level, level, Profile.fadeStep_bounds (h.tables.fadeCode 0)⟩
      target := fun _ => rfl
      silent := fun _ => rfl
      queue := queue.mono nofun
      records := h.records.use mem
      tray := h.tray.identified (q := .priming) high nofun
      output := ⟨offset, h.output.samples, .inl rfl, nofun⟩
      empty := fun parked => nomatch parked.1
      offset := zero_lt_pairs
      held := fun _ it => absurd rfl it
      idle := nofun
      parked := fun parked => nomatch parked.1
      waits := fun _ => ⟨rfl, rfl⟩
      plan := nofun
      finished := nofun }
  · exact {
      toKept := (kept.enter running (by decide : PlayState.idle ≠ _)).of_view rfl
      gain := { h.gain with target := .inl rfl, step := h.tables.currentStep }
      target := fun _ => rfl
      silent := fun _ => mute
      queue := queue.mono nofun
      records := h.records
      tray := h.tray.identified (q := .idle) high nofun
      output := { h.output with }
      empty := fun parked => nomatch parked.1
      offset := h.offset
      held := fun _ _ it => absurd away it
      idle := fun _ => away
      parked := fun parked => nomatch parked.1
      waits := fun it => by rcases it with it | it <;> cases it
      plan := fun p hp _ => h.plan p hp running
      finished := fun done => by cases (show s.out.cursor = _ from done).symm.trans away }

theorem AllKept.identifyDisc (h : AllKept n s) (f : Fingerprint) : AllKept n (s.identifyDisc f) := by
  rw [State.identifyDisc]
  dsimp only
  split
  · exact h.answer _ _ _
  · split
    · rename_i decides
      exact (h.decideResume decides.2 decides.1 f).answer _ _ _ _
    · split
      · rename_i names
        obtain ⟨tray, idle⟩ := names
        have hold : s.out.play ≠ .trayHold := by rw [idle]; decide
        have high : s.tray.line = .high := by
          rcases tray with it | it
          · exact h.tray.high (.inr (.inr it))
          · exact h.tray.high (.inl it)
        have sound : { s.tray with fingerprint := some f, state := .closed }.Sound s.out.play := { h.tray with
          high := fun _ => high
          low := nofun
          fading := nofun
          hold := fun it => absurd it hold
          saved := h.tray.saved.trans (iff_of_false (fun it => hold it.1) fun it => hold it.1)
          named := fun _ => .inl rfl }
        exact (h.withTray sound h.records fun it => absurd it hold).answer _ _ _ _
      · exact h.answer _ _ _

theorem AllKept.ackTray (h : AllKept n s) : AllKept n s.ackTray := by
  have flagged (b : Bool) : AllKept n { s with tray := { s.tray with pendingFlag := b } } :=
    h.withTray { h.tray with } h.records fun _ => Iff.rfl
  rw [State.ackTray]
  split
  · exact (flagged true).postTray.answer _ _ _
  · exact (flagged false).answer _ _ _

theorem AllKept.queryStatus (h : AllKept n s) : AllKept n s.queryStatus :=
  (h.aside (h.toKept.of_view rfl) : AllKept n { s with link := { s.link with noisy := 0 } }).post rfl

theorem AllKept.query (h : AllKept n s) (params : List Byte) : AllKept n (s.query params) := by
  rw [State.query.eq_def]
  split
  · split
    · exact h.queryStatus
    · split <;> exact h.answer _ _ _
  · split
    · exact h.answer _ _ _
    · split
      · split
        · exact h.post rfl
        · exact h.answer _ _ _
      · exact h.answer _ _ _
  · exact h.answer _ _ _

/-- RESET (R189): the tray by its line. -/
theorem AllKept.resetSoft (h : AllKept n s) : AllKept n s.resetSoft where
  toKept := h.toKept.resetSoft
  gain := { h.gain with
    fade := Nat.zero_le _
    target := .inl rfl
    step := Profile.fadeStep_bounds (h.tables.fadeCode 0) }
  target := fun _ => rfl
  silent := fun _ => rfl
  queue := .nil _
  records := h.records
  tray := by
    have saved (t : TrayState) : (none : Option Position).isSome = true ↔ Parked .idle t :=
      iff_of_false nofun fun it => nomatch it.1
    rw [State.resetSoft]
    cases line : s.tray.line with
    | low => exact ⟨by simp [resetTrayState], fun _ => by simp [line], by simp [resetTrayState], nofun, saved _,
        by simp, Nat.zero_le _⟩
    | high => exact ⟨fun _ => by simp [line], by simp [resetTrayState], by simp [resetTrayState], nofun, saved _,
        fun _ => .inl rfl, Nat.zero_le _⟩
  output := ⟨zero_lt_pairs, h.output.samples, .inl rfl, nofun⟩
  empty := fun parked => nomatch parked.1
  offset := zero_lt_pairs
  held := fun _ _ it => absurd rfl it
  idle := fun _ => rfl
  parked := fun _ => rfl
  waits := fun it => by rcases it with it | it <;> cases it
  plan := nofun
  finished := nofun

/-! ### Table loads -/

/-- The record a RESUME load inserts lies within its ranges (R186). -/
theorem ResumeFields.record_ranges {record : List Byte} {fields : ResumeFields} {r : ResumeRecord}
    (read : readResume record = some fields) (accepted : fields.record = some r) :
    r.level ≤ 63 ∧ r.position.offset < Config.pairsPerBlock ∧ r.position.address < Config.addressCount := by
  have address : fields.address < Config.addressCount := by
    rw [readResume.eq_def] at read
    split at read
    · cases read; exact beNat_three _ _ _
    · cases read
  rw [ResumeFields.record] at accepted
  split at accepted
  · split at accepted
    · rename_i inside
      cases accepted
      exact ⟨Nat.min_le_right _ _, inside, address⟩
    · cases accepted
  · cases accepted

theorem AllKept.setEntry (h : AllKept n s) {i : SegmentIndex} {e : PlayEntry} (free : s.inUse i = false)
    (whole : e.first ≤ e.last) (bound : e.last < Config.addressCount) :
    AllKept n { s with table := s.table.setEntry i e } := h.aside (h.toKept.setEntry free whole bound)

theorem AllKept.refreshStep (h : AllKept n s) : AllKept n s.refreshStep := by
  rw [State.refreshStep]
  split
  · exact h.withGain (h.stepFollows h.tables.currentStep s.gain.source)
  · exact h

theorem AllKept.loadProfile (h : AllKept n s) (i : ProfileIndex) {p : Profile}
    (bounds : p.rampLimit ≤ 8 ∧ p.fadeCode ≤ 6 ∧ 16 ≤ p.repairLead ∧ p.repairLead ≤ 255) :
    AllKept n (s.loadProfile i p) := by
  have kept := h.toKept.loadProfile i bounds
  rw [State.loadProfile] at kept ⊢
  have loaded : AllKept n { s with table := s.table.setProfile i p } := by
    refine h.aside ?_
    split at kept
    · exact kept.of_view (State.refreshStep_view _).symm
    · exact kept
  split
  · exact loaded.refreshStep
  · exact loaded

theorem AllKept.configure (h : AllKept n s) {record : List Byte} {c : ConfigRecord}
    (read : readConfig record = some c) : AllKept n (s.configure c) := by
  have slots : (s.configure c).store.slots = s.store.slots := by
    rw [State.configure]
    dsimp only
    split <;> rfl
  exact h.aside (h.toKept.configure read) (.same rfl rfl rfl (by rw [slots]) rfl) ⟨id, fun _ => slots⟩

end

end Sys2Proof.Machine
end

section
/-! SUPPORT. Every row and every step keep the laws of the gain, the reports, the tables, the tray and the output. -/

namespace Sys2Proof.Machine

section
variable {s : State}

/-! ### Every row -/

/-- What a row answers keeps all the laws. -/
def AnswersAllKept (e : Effect) : Prop := ∃ t, e = .next t ∧ AllKept Config.pairsPerBlock t

section
variable (h : AllKept Config.pairsPerBlock s)
include h

theorem AllKept.execSector (f : SectorFrame) : AnswersAllKept (execSector f s) := by
  refine ⟨_, rfl, ?_⟩
  split
  · rename_i size
    have voted : AllKept Config.pairsPerBlock { s with link := s.link.countVote (arrivalOf f).address } :=
      h.aside (h.toKept.of_view rfl)
    exact voted.arrive (arrivalOf_quality f) size
  · exact h

theorem AllKept.execRefusedForwardUnit (unit : List Byte) : AnswersAllKept (execRefusedForwardUnit unit s) := by
  refine ⟨_, rfl, ?_⟩
  split
  · exact h.post rfl
  · exact h

theorem AllKept.execPlay (params : List Byte) : AnswersAllKept (execPlay params s) :=
  ⟨_, rfl, by
    split
    · exact h.commanded _ _ fun running => h.playAt running _ _
    · exact h.commanded _ _ fun _ => h⟩

theorem AllKept.execSetLevel (params : List Byte) : AnswersAllKept (execSetLevel params s) :=
  ⟨_, rfl, by
    split
    · exact h.commanded _ _ fun _ => (h.setLevel _).answer _ _ _
    · exact h.commanded _ _ fun _ => h⟩

theorem AllKept.execSetStop (params : List Byte) : AnswersAllKept (execSetStop params s) :=
  ⟨_, rfl, by
    split
    · exact h.commanded _ _ fun _ => h.setStop _
    · exact h.commanded _ _ fun _ => h⟩

theorem AllKept.execSetRepeat (params : List Byte) : AnswersAllKept (execSetRepeat params s) :=
  ⟨_, rfl, by
    split
    · exact h.commanded _ _ fun _ => h.setRepeat _
    · exact h.commanded _ _ fun _ => h⟩

theorem AllKept.execIdentify (params : List Byte) : AnswersAllKept (execIdentify params s) :=
  ⟨_, rfl, by
    split
    · exact h.commanded _ _ fun _ => h.identifyDisc _
    · exact h.commanded _ _ fun _ => h⟩

theorem AllKept.execSoftReset (params : List Byte) : AnswersAllKept (execSoftReset params s) :=
  ⟨_, rfl, by
    split
    · exact h.resetSoft.answer _ _ _
    · exact h.answer _ _ _⟩

theorem AllKept.execSegmentLoad (record : List Byte) : AnswersAllKept (execSegmentLoad record s) := by
  refine ⟨_, rfl, ?_⟩
  split
  · exact h.loaded _ _ fun _ => h
  · rename_i read
    refine h.loaded _ _ fun _ => ?_
    split
    · exact h.answer _ _ _
    · rename_i entry
      split
      · exact h.answer _ _ _
      · rename_i free
        obtain ⟨whole, bound⟩ := readSegment_entry read entry
        exact (h.setEntry (by simpa using free) whole bound).answer _ _ _

theorem AllKept.execProfileLoad (record : List Byte) : AnswersAllKept (execProfileLoad record s) := by
  refine ⟨_, rfl, ?_⟩
  split
  · exact h.loaded _ _ fun _ => h
  · rename_i read
    refine h.loaded _ _ fun _ => ?_
    split
    · exact h.answer _ _ _
    · exact (h.loadProfile _ (readProfile_bounds read)).evaluateRepair.answer _ _ _

theorem AllKept.execConfigLoad (record : List Byte) : AnswersAllKept (execConfigLoad record s) := by
  refine ⟨_, rfl, ?_⟩
  split
  · exact h.loaded _ _ fun _ => h
  · rename_i read
    refine h.loaded _ _ fun _ => ?_
    split
    · exact (h.configure read).answer _ _ _
    · exact h.answer _ _ _

theorem AllKept.execResumeLoad (record : List Byte) : AnswersAllKept (execResumeLoad record s) := by
  refine ⟨_, rfl, ?_⟩
  split
  · exact h.loaded _ _ fun _ => h
  · rename_i read
    refine h.loaded _ _ fun _ => ?_
    split
    · exact h.answer _ _ _
    · rename_i accepted
      obtain ⟨level, offset, address⟩ := ResumeFields.record_ranges read accepted
      have inserted := h.withTray (tr := { s.tray with records := insertRecord s.tray.records _ }) { h.tray with }
        (h.records.insert level offset address) fun _ => Iff.rfl
      exact inserted.answer _ _ _

theorem AllKept.execUnknownCommandCode (body : List Byte) : AnswersAllKept (execUnknownCommandCode body s) := by
  refine ⟨_, rfl, ?_⟩
  split
  · exact h
  · exact h.commanded _ _ fun _ => h

theorem AllKept.execUnknownTableFormat (body : List Byte) : AnswersAllKept (execUnknownTableFormat body s) := by
  refine ⟨_, rfl, ?_⟩
  split
  · exact h
  · exact h.loaded _ _ fun _ => h

theorem AllKept.withLink (l : Link) : AllKept Config.pairsPerBlock { s with link := l } :=
  h.aside (h.toKept.of_view rfl)

theorem AllKept.execSeekSend : AnswersAllKept (execSeekSend s) := by
  refine ⟨_, rfl, ?_⟩
  split
  · split
    · exact h.withLink _
    · exact h
  · exact h

theorem AllKept.execReadPauseSend : AnswersAllKept (execReadPauseSend s) := by
  refine ⟨_, rfl, ?_⟩
  split
  · exact h.withLink _
  · exact h

/-- The oldest entry leaves the queue (R42, R163). -/
theorem AllKept.execReportSend : AnswersAllKept (execReportSend s) := by
  refine ⟨_, rfl, ?_⟩
  split
  · rename_i e rest held
    split
    · have shorter : QueueSound rest (s.out.play = .halted) :=
        h.queue.sublist (by rw [held]; exact List.sublist_cons_self e rest)
      have sent : AllKept Config.pairsPerBlock { s with
          reports := rest, link := { s.link with sending := some (e.frame s.tray.edges) } } :=
        { h with
          toKept := h.toKept.of_view rfl
          queue := shorter }
      refine sent.withTray { h.tray with edges := ?_ } h.records fun _ => Iff.rfl
      dsimp only
      split
      · exact Nat.zero_le _
      · exact h.tray.edges
    · exact h
  · exact h

theorem AllKept.execHardReset (line : TrayLine) : AnswersAllKept (execHardReset line s) :=
  ⟨_, rfl, allKept_of_lawful (lawful_hardReset line h.store.dram s.pending)⟩

end

/-- Every row keeps all the laws. -/
theorem AllKept.exec (h : AllKept Config.pairsPerBlock s) (c : Instr) : AnswersAllKept (exec c s) := by
  have few : 479 ≤ Config.pairsPerBlock := by decide
  cases c with
  | hardReset line => exact h.execHardReset line
  | refusedForwardUnit unit => exact h.execRefusedForwardUnit unit
  | sector frame => exact h.execSector frame
  | seekDone tag status => exact ⟨_, rfl, h.seekAnswer tag status⟩
  | play params => exact h.execPlay params
  | pause params => exact ⟨_, rfl, h.commanded _ _ fun _ => h.pauseNow⟩
  | resume params => exact ⟨_, rfl, h.commanded _ _ fun _ => h.resumeNow⟩
  | stop params => exact ⟨_, rfl, h.commanded _ _ fun _ => h.stopNow⟩
  | setLevel params => exact h.execSetLevel params
  | setStop params => exact h.execSetStop params
  | setRepeat params => exact h.execSetRepeat params
  | cue params => exact ⟨_, rfl, h.commanded _ _ fun _ => h.cueNow⟩
  | identify params => exact h.execIdentify params
  | ackTray params => exact ⟨_, rfl, h.commanded _ _ fun _ => h.ackTray⟩
  | clearTimebase params =>
    exact ⟨_, rfl, h.commanded _ _ fun _ => (h.aside h.toKept.clearTimer).answer _ _ _⟩
  | queryStatus rest => exact ⟨_, rfl, h.query _⟩
  | queryTable params => exact ⟨_, rfl, h.query params⟩
  | softReset params => exact h.execSoftReset params
  | segmentLoad record => exact h.execSegmentLoad record
  | profileLoad record => exact h.execProfileLoad record
  | configLoad record => exact h.execConfigLoad record
  | resumeLoad record => exact h.execResumeLoad record
  | openEdge => exact ⟨_, rfl, h.takeOpenEdge⟩
  | closeEdge => exact ⟨_, rfl, h.takeCloseEdge⟩
  | samplePeriod upset => exact ⟨_, rfl, (h.upset upset).takeDue.period⟩
  | blockPeriodEnd => exact ⟨_, rfl, h.takePeriodEnd.mono few⟩
  | watchdogExpiry => exact ⟨_, rfl, h.takeExpiry⟩
  | settleEnd => exact ⟨_, rfl, h.takeSettleEnd⟩
  | periodicPosition => exact ⟨_, rfl, h.takePeriodicPosition⟩
  | stopCompletion => exact ⟨_, rfl, h.takeStopCompletion⟩
  | pausedEntry => exact ⟨_, rfl, h.takePausedEntry⟩
  | saveStep => exact ⟨_, rfl, h.takeSaveStep⟩
  | dropped upset => exact ⟨_, rfl, (h.upset upset).takeDropped⟩
  | startTestPass => exact ⟨_, rfl, h.takeStartTest⟩
  | starvedRecovery => exact ⟨_, rfl, h.takeStarvedRecovery⟩
  | refill => exact ⟨_, rfl, h.takeRefill⟩
  | placeholderRun => exact ⟨_, rfl, h.takePlaceholderRun⟩
  | seekSend => exact h.execSeekSend
  | readPauseSend => exact h.execReadPauseSend
  | reportSend => exact h.execReportSend
  | reverseFrameEnd => exact ⟨_, rfl, h.withLink _⟩
  | unknownCommandCode body => exact h.execUnknownCommandCode body
  | unknownTableFormat body => exact h.execUnknownTableFormat body

theorem AllKept.step (h : AllKept Config.pairsPerBlock s) {t : State} (next : step s = .next t) :
    AllKept Config.pairsPerBlock t := by
  rw [Machine.step] at next
  split at next
  · cases next; exact h
  · rename_i c rest _
    have taken : AllKept Config.pairsPerBlock { s with pending := rest } := h.aside (h.toKept.of_view rfl)
    obtain ⟨u, answer, kept⟩ := taken.exec c
    rw [answer] at next
    cases next
    exact kept

end

/-- Settles O59: the laws in `AllKept`, which join those of O57 and O58, hold of a lawful state, and every row keeps
them. -/
theorem outputTrayAndTableLawsAreKept : Obligations.OutputTrayAndTableLawsAreKept :=
  fun _ _ lawful next => ((allKept_of_lawful lawful).step next).laws

end Sys2Proof.Machine
end

section
/-! SUPPORT. PLAY, PAUSE and STOP, and the commands that set one value (spec/06, spec/07, spec/10). -/

namespace Sys2Proof.Machine

/-! ### Each command handled (R179, R180) -/

section
variable {s : State}

/-- The play states other than HALTED. -/
theorem State.running_of_play {p : PlayState} (play : s.out.play = p) (other : p ≠ .halted) : s.out.play ≠ .halted :=
  play ▸ other

section
variable (running : s.out.play ≠ .halted)
include running

theorem exec_pause : exec (.pause []) s = .next s.pauseNow := congrArg _ (s.commanded_running _ _ running)

theorem exec_resume : exec (.resume []) s = .next s.resumeNow := congrArg _ (s.commanded_running _ _ running)

theorem exec_stop : exec (.stop []) s = .next s.stopNow := congrArg _ (s.commanded_running _ _ running)

theorem exec_cue : exec (.cue []) s = .next s.cueNow := congrArg _ (s.commanded_running _ _ running)

theorem exec_clearTimebase :
    exec (.clearTimebase []) s = .next ({ s with timer := s.timer.clear }.done 0x0B#8) :=
  congrArg _ (s.commanded_running _ _ running)

theorem exec_setLevel (b : Byte) : exec (.setLevel [b]) s = .next ((s.setLevel b).done 0x05#8) :=
  congrArg _ (s.commanded_running _ _ running)

theorem exec_setStop (b : Byte) : exec (.setStop [b]) s = .next (s.setStop b) :=
  congrArg _ (s.commanded_running _ _ running)

theorem exec_setRepeat (b : Byte) : exec (.setRepeat [b]) s = .next (s.setRepeat b) :=
  congrArg _ (s.commanded_running _ _ running)

theorem exec_play {params : List Byte} {seg : Byte} {address : Option Addr}
    (read : readPlay params = some (seg, address)) : exec (.play params) s = .next (s.playAt seg address) := by
  rw [exec, execPlay, read]
  exact congrArg _ (s.commanded_running _ _ running)

end

/-! ### PAUSE (R122) -/

theorem State.pauseNow_plays (play : s.out.play = .playing ∨ s.out.play = .starved) :
    s.pauseNow = (s.fadedInto .pausing 0).done 0x02#8 := by
  rcases play with play | play <;> rw [pauseNow, play, State.enter_eq] <;> rfl

theorem State.pauseNow_busy (play : s.out.play = .idle ∨ s.out.play = .priming ∨ s.out.play = .pausing
    ∨ s.out.play = .paused ∨ s.out.play = .stopping) : s.pauseNow = s.answer .command 0x02#8 .busy := by
  rcases play with play | play | play | play | play <;> rw [pauseNow, play]

/-- Settles O20: by the play state. -/
theorem pauseActsByPlayState : Obligations.PauseActsByPlayState := by
  intro s
  refine ⟨fun play => ?_, fun hold => ?_, fun play => ?_⟩
  · have running : s.out.play ≠ .halted := by rcases play with play | play <;> rw [play] <;> decide
    rw [exec_pause running, State.pauseNow_plays play]
    rfl
  · rw [exec_pause (State.running_of_play hold (by decide)), State.pauseNow, hold]
    rfl
  · have running : s.out.play ≠ .halted := by
      rcases play with play | play | play | play | play <;> rw [play] <;> decide
    rw [exec_pause running, State.pauseNow_busy play]
    rfl

/-! ### STOP (R124, R170) -/

/-- The STOP completion (R124, R16, R88, R170). -/
theorem State.completeStop_eq (s : State) : s.completeStop = s.stopped := by
  simp only [completeStop, State.enter_eq, Tray.leaveFading_eq]
  rfl

/-- The completion reads nothing of the state fade it follows. -/
theorem State.stopped_enter (s : State) (p : PlayState) : (s.enter p).stopped = s.stopped := rfl

theorem State.stopNow_plays (play : s.out.play = .playing ∨ s.out.play = .pausing ∨ s.out.play = .starved) :
    s.stopNow = (s.fadedInto .stopping 0).done 0x04#8 := by
  rcases play with play | play | play <;> rw [stopNow, play, State.enter_eq] <;> rfl

theorem State.stopNow_silent (play : s.out.play = .paused ∨ s.out.play = .priming) :
    s.stopNow = s.stopped.done 0x04#8 := by
  rcases play with play | play
  · rw [stopNow, play, ← State.completeStop_eq]
  · rw [stopNow, play, State.completeStop_eq, State.stopped_enter]

/-- Settles O22: by the play state, and the completion by its one test. -/
theorem stopActsByPlayState : Obligations.StopActsByPlayState := by
  intro s
  refine ⟨fun play => ?_, fun play => ?_, fun play => ?_, fun play => ?_, fun play => ?_, fun play mute => ?_⟩
  · have running : s.out.play ≠ .halted := by rcases play with play | play | play <;> rw [play] <;> decide
    rw [exec_stop running, State.stopNow_plays play]
    rfl
  · have running : s.out.play ≠ .halted := by rcases play with play | play <;> rw [play] <;> decide
    rw [exec_stop running, State.stopNow_silent play]
    rfl
  iterate 3
    rw [exec_stop (State.running_of_play play (by decide)), State.stopNow, play]
    rfl
  · rw [← State.completeStop_eq]
    exact congrArg _ (if_pos ⟨play, mute⟩)

/-! ### SET_LEVEL, SET_STOP, SET_REPEAT, CUE and CLEAR_TIMEBASE (R110, R136, R154) -/

/-- Settles O23: each value by its range. -/
theorem steeringCommandsSetTheirValue : Obligations.SteeringCommandsSetTheirValue := by
  intro s b running
  have named (n : Nat) (small : n < 256) : b = BitVec.ofNat 8 n ↔ b.toNat = n := by
    rw [← BitVec.toNat_inj, BitVec.toNat_ofNat, Nat.mod_eq_of_lt small]
  refine ⟨?_, fun seg index => ?_, fun none => ?_, fun low high => ?_, fun flag => ?_, fun other => ?_,
    fun playing => ?_, fun hold => ?_, exec_clearTimebase running⟩
  · have clamped : min b.toNat 63 = if 63 < b.toNat then 63 else b.toNat := by split_ifs <;> omega
    rw [exec_setLevel running, State.setLevel, clamped]
    rfl
  · have listed : b ≠ 0xFF#8 := fun it => by have := seg.isLt; have := (named 255 (by decide)).1 it; omega
    rw [exec_setStop running, State.setStop, if_neg listed, segmentOf_of_eq index]
    rfl
  · rw [exec_setStop running, State.setStop, if_pos ((named 255 (by decide)).2 none)]
    rfl
  · have listed : b ≠ 0xFF#8 := fun it => by have := (named 255 (by decide)).1 it; omega
    rw [exec_setStop running, State.setStop, if_neg listed, segmentOf_none low]
    rfl
  · rw [exec_setRepeat running, State.setRepeat]
    rcases Nat.le_one_iff_eq_zero_or_eq_one.1 flag with zero | one
    · rw [if_pos ((named 0 (by decide)).2 zero), zero]
      rfl
    · have set : b ≠ 0x00#8 := fun it => by have := (named 0 (by decide)).1 it; omega
      rw [if_neg set, if_pos ((named 1 (by decide)).2 one), one]
      rfl
  · have clear : b ≠ 0x00#8 := fun it => by have := (named 0 (by decide)).1 it; omega
    have set : b ≠ 0x01#8 := fun it => by have := (named 1 (by decide)).1 it; omega
    rw [exec_setRepeat running, State.setRepeat, if_neg clear, if_neg set]
    rfl
  · rw [exec_cue running, State.cueNow, if_neg playing]
    rfl
  · rw [exec_cue running, State.cueNow, if_pos hold]
    rfl

/-! ### PLAY (R115, R180) -/

/-- The parameters of PLAY with an address (R192). -/
theorem readPlay_beBytes (b : Byte) (a : BitVec 24) : readPlay (b :: beBytes 3 a.toNat) = some (b, some a.toNat) := by
  obtain ⟨x, y, z, bytes, number⟩ := beBytes_three a
  rw [bytes, readPlay, number]

theorem State.playAt_invalid {b : Byte} {seg : SegmentIndex} (index : b.toNat = seg.val)
    (invalid : s.table.playList[seg].valid = false) (address : Option Addr) :
    s.playAt b address = s.answer .command 0x01#8 .invalid := by
  rw [playAt, segmentOf_of_eq index]
  exact if_pos invalid

theorem State.playAt_valid {b : Byte} {seg : SegmentIndex} (index : b.toNat = seg.val)
    (valid : s.table.playList[seg].valid = true) (address : Option Addr) :
    let e := s.table.entry seg
    s.playAt b address = if s.tray.state ≠ .closed then s.answer .command 0x01#8 .tray
      else (s.startAt ⟨seg, max e.first (min e.last (address.getD e.first)), 0⟩ .start).done 0x01#8 := by
  rw [playAt, segmentOf_of_eq index]
  exact if_neg (by rw [show (s.table.entry seg).valid = true from valid]; decide)

/-- A number clamped from above, then from below. -/
theorem clamp_eq {low high : Nat} (whole : low ≤ high) (n : Nat) :
    max low (min high n) = if n < low then low else if high < n then high else n := by
  split_ifs <;> omega

/-- Settles O18: the parameters as they are read, and the address clamped from below and above. -/
theorem playStartsAtItsPosition : Obligations.PlayStartsAtItsPosition := by
  intro s seg address e params start running closed valid whole
  have index : (byteOf seg.val).toNat = seg.val := by
    rw [byteOf, BitVec.toNat_ofNat, Nat.mod_eq_of_lt (seg.isLt.trans (by decide))]
  have read : readPlay params = some (byteOf seg.val, address.map BitVec.toNat) := by
    cases address with
    | none => rfl
    | some a => exact readPlay_beBytes _ a
  have clamped : max e.first (min e.last ((address.map BitVec.toNat).getD e.first)) = start := by
    cases address with
    | none => exact (congrArg _ (min_eq_right whole)).trans (max_self _)
    | some a =>
      exact clamp_eq whole a.toNat
  rw [exec_play running read, State.playAt_valid index valid, if_neg (not_not_intro closed), State.startAt_eq]
  exact congrArg (fun at_ => Host.Outcome.next ((s.startedAt ⟨seg, at_, 0⟩ .start).done 0x01#8)) clamped

/-- A PLAY of a length that some form has carries a segment byte (R192). -/
theorem readPlay_some (b : Byte) {rest : List Byte} (length : rest = [] ∨ rest.length = 3) :
    ∃ address, readPlay (b :: rest) = some (b, address) := by
  rcases length with rfl | length
  · exact ⟨_, rfl⟩
  · obtain ⟨x, y, z, rfl⟩ := List.length_eq_three.1 length
    exact ⟨_, rfl⟩

theorem State.resumeNow_busy (play : s.out.play = .idle ∨ s.out.play = .priming ∨ s.out.play = .playing
    ∨ s.out.play = .starved ∨ s.out.play = .stopping) : s.resumeNow = s.answer .command 0x03#8 .busy := by
  rcases play with play | play | play | play | play <;> rw [resumeNow, play]

/-- Settles O19: PLAY by its segment and the tray, RESUME by the play state. -/
theorem playAndResumeAreRefused : Obligations.PlayAndResumeAreRefused := by
  refine ⟨fun s b rest running length => ?_, fun s => ⟨fun hold => ?_, fun play => ?_⟩⟩
  · obtain ⟨address, read⟩ := readPlay_some b length
    rw [exec_play running read]
    refine ⟨fun unnamed => ?_, fun seg index => ⟨fun invalid => ?_, fun valid tray => ?_⟩⟩
    · rw [State.playAt, segmentOf_none unnamed]
      rfl
    · rw [State.playAt_invalid index invalid]
      rfl
    · rw [State.playAt_valid index valid, if_pos tray]
      rfl
  · rw [exec_resume (State.running_of_play hold (by decide)), State.resumeNow, hold]
    rfl
  · have running : s.out.play ≠ .halted := by
      rcases play with play | play | play | play | play <;> rw [play] <;> decide
    rw [exec_resume running, State.resumeNow_busy play]
    rfl

end

end Sys2Proof.Machine
end

section
/-! SUPPORT. RESUME (spec/06), and IDENTIFY where it decides a resume (spec/09). -/

namespace Sys2Proof.Machine

/-! ### The fade turned up (R123, R150) -/

section
variable {s : State}

/-- A plan that asks for no fade-out again (R150). -/
theorem State.turnPlan_same (plan : ∀ p ∈ s.out.plan, p.kind = .ramp ∨ p.kind = .mute ∨ p.fadeStep = none
    ∨ (p.kind = .fade ∧ p.fadedOut = true) ∨ (p.kind = .drop ∧ p.phase = .dropped)) : s.turnPlan = s := by
  rw [turnPlan]
  split
  · rfl
  · rename_i p planned
    have past := plan p planned
    split
    · rename_i fade step
      rw [fade, step] at past
      simp only [reduceCtorEq, false_or, true_and, false_and, or_false] at past
      exact if_pos past
    · rename_i drop step
      rw [drop, step] at past
      simp only [reduceCtorEq, false_or, true_and, false_and] at past
      exact if_neg (by rw [past]; decide)
    · rfl

/-- A FADE that has not faded out, or a DROP in FADING, asks for its fade-out again (R150). -/
theorem State.turnPlan_fades {p : Plan} (planned : s.out.plan = some p) {step : Nat} (own : p.fadeStep = some step)
    (fading : (p.kind = .fade ∧ p.fadedOut = false) ∨ (p.kind = .drop ∧ p.phase = .fading)) :
    s.turnPlan = s.fixedFade step := by
  rcases fading with ⟨kind, sounding⟩ | ⟨kind, phase⟩
  · simp only [turnPlan, planned, kind, own, sounding, Bool.false_eq_true, if_false]
  · simp only [turnPlan, planned, kind, own, phase, if_true]

/-- The play goes on in the state the fade leaves, with the block boundary test where the cursor waits (R123). -/
theorem State.resumePlay_eq {t : State}
    (turned : (if s.out.play = .pausing then (s.enter .playing).turnPlan else s.enter .playing) = t) :
    s.resumePlay = if t.out.cursor = .waiting then t.boundaryTested else t := by
  rw [resumePlay, turned, State.boundaryTest_eq]

theorem exec_resume_paused (play : s.out.play = .paused ∨ s.out.play = .pausing) :
    exec (.resume []) s = .next (s.resumePlay.post (.result .command 0x03#8 .done false)).takeHeldConsume := by
  have running : s.out.play ≠ .halted := by rcases play with play | play <;> rw [play] <;> decide
  rw [exec_resume running]
  rcases play with play | play <;> rw [State.resumeNow, play] <;> rfl

/-- No consume is held back of a block that is not finished (R122). -/
theorem State.takeHeldConsume_going (going : s.out.cursor ≠ .finished) : s.takeHeldConsume = s := if_neg going

theorem State.enter_playing (s : State) : s.enter .playing = s.fadedInto .playing 32768 := s.enter_eq .playing

end

/-- Settles O21: the fade by the plan, then the boundary test of a cursor that waits, the RESULT, and the consume of one
that is finished. -/
theorem resumeTurnsTheFadeUp : Obligations.ResumeTurnsTheFadeUp := by
  refine ⟨fun s waits unplanned play => ?_, ?_⟩
  · have turned : (if s.out.play = .pausing then (s.enter .playing).turnPlan else s.enter .playing)
        = s.fadedInto .playing 32768 := by
      rw [State.turnPlan_same (s := s.enter .playing) (fun p hp => by cases unplanned.symm.trans hp), ite_self,
        State.enter_playing]
    have tested : s.resumePlay = (s.fadedInto .playing 32768).boundaryTested := by
      rw [State.resumePlay_eq turned, if_pos (show (s.fadedInto .playing 32768).out.cursor = .waiting from waits)]
    rw [exec_resume_paused play, tested, State.takeHeldConsume_going]
    rw [State.post_out, ← State.boundaryTest_eq]
    exact State.boundaryTest_going _
  · intro s t cursor shape answered
    have play : s.out.play = .paused ∨ s.out.play = .pausing :=
      shape.elim (fun h => h.2.imp_right And.left) fun h => .inr h.1
    have turned : (if s.out.play = .pausing then (s.enter .playing).turnPlan else s.enter .playing) = t := by
      rcases shape with ⟨rfl, paused | ⟨pausing, plan⟩⟩ | ⟨pausing, p, planned, step, own, fading, rfl⟩
      · rw [if_neg (by rw [paused]; decide), State.enter_playing]
      · rw [if_pos pausing, State.turnPlan_same (s := s.enter .playing) plan, State.enter_playing]
      · rw [if_pos pausing, State.turnPlan_fades (s := s.enter .playing) planned own fading]
        rfl
    have shared : t.out.cursor = s.out.cursor ∧ t.store.slots = s.store.slots := by
      rcases shape with ⟨rfl, -⟩ | ⟨-, _, -, _, -, -, rfl⟩ <;> exact ⟨rfl, rfl⟩
    obtain ⟨cursors, slots⟩ := shared
    have resumed : s.resumePlay = t := by
      rw [State.resumePlay_eq turned, cursors, if_neg cursor]
    rw [exec_resume_paused play, resumed]
    have still : answered.out.cursor = s.out.cursor := by rw [State.post_out, cursors]
    refine ⟨fun going => congrArg _ (State.takeHeldConsume_going (still.trans_ne going)), fun x rest done held => ?_⟩
    have front : answered.store.slots = x :: rest := by rw [State.post_store, slots, held]
    exact congrArg _ ((State.takeHeldConsume_eq answered x rest front).trans (if_pos (still.trans done)))

/-! ### IDENTIFY decides a resume (R174 to R177) -/

/-- No record has the fingerprint (R174). -/
theorem findRecord_none {l : List ResumeRecord} {f : Fingerprint} (unknown : ∀ r ∈ l, r.fingerprint ≠ f) :
    findRecord l f = none := by
  rw [findRecord, List.find?_eq_none]
  intro r mem
  simpa using unknown r mem

section
variable {front back : List ResumeRecord} {r : ResumeRecord}

/-- The one record with the fingerprint (R172, R174). -/
theorem findRecord_some {f : Fingerprint} (named : r.fingerprint = f)
    (others : ∀ x ∈ front ++ back, x.fingerprint ≠ f) :
    findRecord (front ++ r :: back) f = some r := by
  have before : findRecord front f = none := findRecord_none fun x mem => others x (List.mem_append_left _ mem)
  rw [findRecord] at before ⊢
  rw [List.find?_append, before, List.find?_cons_of_pos (by simp [named])]
  rfl

/-- The record used moves to the front, and the others keep their order (R172, R176). -/
theorem useRecord_eq (others : ∀ x ∈ front ++ back, x.fingerprint ≠ r.fingerprint) :
    useRecord (front ++ r :: back) r = r :: (front ++ back) := by
  have kept : (front ++ back).filter (fun x => x.fingerprint != r.fingerprint) = front ++ back :=
    List.filter_eq_self.2 fun x mem => by simpa using others x mem
  rw [List.filter_append] at kept
  rw [useRecord, List.filter_append, List.filter_cons_of_neg (by simp), kept]

end

section
variable {s : State} {f : Fingerprint}

/-- A resume refused leaves IDLE, the disc named and nothing saved (R175, R176). -/
def State.resumeRefused (s : State) (f : Fingerprint) : State :=
  { s.fadedInto .idle 0 with tray := { s.tray with fingerprint := some f, state := .closed, saved := none } }

theorem State.decideResume_refused {outcome : ResumeOutcome} (decided : s.resumeOutcome f = outcome)
    (refused : outcome ≠ .resumed) : s.decideResume f
      = (s.resumeRefused f).post (.resume outcome f ((findRecord s.tray.records f).map ResumeRecord.position)) := by
  rw [decideResume, decided]
  dsimp only
  split
  · exact absurd rfl refused
  · rw [State.enter_eq]
    rfl

/-- The saved play restored from its record, which moves to the front (R176). -/
theorem State.decideResume_resumed {r : ResumeRecord} (decided : s.resumeOutcome f = .resumed)
    (found : findRecord s.tray.records f = some r) {l : List ResumeRecord} (moved : useRecord s.tray.records r = l) :
    let u := { s with
      gain := { s.gain with requested := r.level, applied := r.level }
      table := { s.table with repeatFlag := r.repeatFlag }
      tray := { s.tray with fingerprint := some f, state := .closed, saved := none, records := l } }
    let v := u.startedAt r.position .resume
    let step := 32768 / (64 * 2 ^ s.table.profiles[(0 : ProfileIndex)].fadeCode)
    s.decideResume f = State.post { v with gain := { v.gain with step := step, source := StepSource.currentProfile } }
      (.resume .resumed f (some r.position)) := by
  subst moved
  rw [decideResume, decided, found]
  dsimp only
  rw [State.resumeFrom_eq]
  rfl

/-- The decision by the record found (R175). -/
theorem State.resumeOutcome_of_found {r : ResumeRecord} (found : findRecord s.tray.records f = some r) :
    let e := s.table.playList[r.position.segment]
    (r.signature ≠ s.table.signature → s.resumeOutcome f = .refusedFormat)
    ∧ (r.signature = s.table.signature →
      e.valid = false ∨ r.position.address < e.first ∨ e.last < r.position.address →
      s.resumeOutcome f = .refusedPosition)
    ∧ (r.signature = s.table.signature → e.valid = true → e.first ≤ r.position.address → r.position.address ≤ e.last →
      s.resumeOutcome f = .resumed) := by
  intro e
  have decided : s.resumeOutcome f = if s.table.signature ≠ r.signature then .refusedFormat
      else if e.valid = false ∨ r.position.address < e.first ∨ e.last < r.position.address then .refusedPosition
      else .resumed := by rw [State.resumeOutcome, found]; rfl
  rw [decided]
  refine ⟨fun other => if_pos other.symm, fun same outside => ?_, fun same valid low high => ?_⟩
  · rw [if_neg (not_not_intro same.symm), if_pos outside]
  · have inside : ¬ (e.valid = false ∨ r.position.address < e.first ∨ e.last < r.position.address) := by
      rw [valid]
      exact fun it => it.elim nofun fun it => it.elim (Nat.not_lt.2 low) (Nat.not_lt.2 high)
    rw [if_neg (not_not_intro same.symm), if_neg inside]

theorem exec_identify_decides (hold : s.out.play = .trayHold) (waits : s.tray.state = .awaitId)
    (clear : s.tray.pendingFlag = false) : exec (.identify (beBytes 4 f.toNat)) s
      = .next ((s.decideResume f).post (.result .command 0x09#8 .done (findRecord s.tray.records f).isSome)) := by
  rw [exec_identify (State.running_of_play hold (by decide)), State.identifyDisc, clear,
    if_neg Bool.false_ne_true, if_pos ⟨waits, hold⟩]
  rfl

end

/-- Settles O29: by the record found, and the decision on it. -/
theorem identifyDecidesTheResume : Obligations.IdentifyDecidesTheResume := by
  intro s f hold waits clear params idle
  rw [exec_identify_decides hold waits clear]
  refine ⟨fun unknown => ?_, ?_⟩
  · have found := findRecord_none unknown
    have decided : s.resumeOutcome f = .noRecord := by rw [State.resumeOutcome, found]
    rw [State.decideResume_refused decided (by decide), found]
    rfl
  · intro front back r records named others e
    have found : findRecord s.tray.records f = some r := by rw [records]; exact findRecord_some named others
    obtain ⟨format, position, resumes⟩ := State.resumeOutcome_of_found found
    refine ⟨fun other => ?_, fun same outside => ?_, ?_⟩
    · rw [State.decideResume_refused (format other) (by decide), found]
      rfl
    · rw [State.decideResume_refused (position same outside) (by decide), found]
      rfl
    · intro same valid low high u v step
      have moved : useRecord s.tray.records r = r :: (front ++ back) := by
        rw [records]
        exact useRecord_eq (named ▸ others)
      rw [State.decideResume_resumed (resumes same valid low high) found moved, found]
      rfl

end Sys2Proof.Machine
end

section
/-! SUPPORT. The SEGMENT load (spec/10), the timebase's events (spec/08) and the events of the occupancy (spec/06). -/

namespace Sys2Proof.Machine

/-! ### The SEGMENT load (R109, R184) -/

/-- A SEGMENT record read, its addresses from their bytes (R192). -/
theorem readSegment_beBytes (i p flags : Byte) (first last : BitVec 24) :
    readSegment (i :: (beBytes 3 first.toNat ++ beBytes 3 last.toNat ++ [p, flags]))
      = some ⟨i, first.toNat, last.toNat, p, flags⟩ := by
  obtain ⟨a, b, c, bytesFirst, low⟩ := beBytes_three first
  obtain ⟨x, y, z, bytesLast, high⟩ := beBytes_three last
  simp only [bytesFirst, bytesLast, List.cons_append, List.nil_append, readSegment, low, high]

/-- A record that names no segment or no profile, or that ends before its start, is refused (R184). -/
theorem SegmentRecord.entry_refused {r : SegmentRecord}
    (refused : 64 ≤ r.index.toNat ∨ r.last < r.first ∨ 4 ≤ r.profile.toNat) : r.entry = none := by
  rcases refused with unnamed | short | unnamed
  · rw [entry, segmentOf_none unnamed]
  · rw [entry]
    split
    · exact if_pos short
    · rfl
  · rw [entry, profileIndexOf_none unnamed]
    split
    · rename_i none
      cases none
    · rfl

theorem SegmentRecord.entry_accepted {r : SegmentRecord} {seg : SegmentIndex} {profile : ProfileIndex}
    (index : r.index.toNat = seg.val) (named : r.profile.toNat = profile.val) (whole : r.first ≤ r.last) :
    r.entry = some (seg, ⟨r.first, r.last, profile, r.flags.getLsbD 0, r.flags.getLsbD 1⟩) := by
  rw [entry, segmentOf_of_eq index, profileIndexOf_of_eq named]
  exact if_neg (Nat.not_lt.2 whole)

/-- The test of a segment in use (R184). -/
theorem State.inUse_iff (s : State) (seg : SegmentIndex) : s.inUse seg = true
    ↔ (∃ x ∈ s.store.slots, x.segment = seg) ∨ (s.track.segment = seg ∧ s.fill.state ≠ .stopped) := by
  simp [State.inUse]

section
variable {s : State} (running : s.out.play ≠ .halted) {record : List Byte} {r : SegmentRecord}
  (read : readSegment record = some r)
include running read

theorem exec_segmentLoad_refused (refused : r.entry = none) :
    exec (.segmentLoad record) s = .next (s.post (.result .table 0x11#8 .invalid false)) := by
  simp only [exec, execSegmentLoad, read, State.loaded_running _ _ _ running, refused]
  rfl

theorem exec_segmentLoad_accepted {seg : SegmentIndex} {e : PlayEntry} (accepted : r.entry = some (seg, e)) :
    exec (.segmentLoad record) s = .next (if s.inUse seg then s.post (.result .table 0x11#8 .inUse false)
      else { s with table := { s.table with playList := s.table.playList.set seg e } }.post
        (.result .table 0x11#8 .done false)) := by
  simp only [exec, execSegmentLoad, read, State.loaded_running _ _ _ running, accepted]
  rfl

end

/-- Settles O32: the record as it is read, refused by its fields or by the use of its segment. -/
theorem segmentLoadReplacesItsEntry : Obligations.SegmentLoadReplacesItsEntry := by
  intro s i p flags first last running record
  have read := readSegment_beBytes i p flags first last
  refine ⟨fun refused => exec_segmentLoad_refused running read (SegmentRecord.entry_refused refused), ?_⟩
  intro seg profile index named whole used e
  have accepted := SegmentRecord.entry_accepted (r := ⟨i, first.toNat, last.toNat, p, flags⟩) index named whole
  rw [exec_segmentLoad_accepted running read accepted]
  exact ⟨fun uses => congrArg _ (if_pos ((s.inUse_iff seg).2 uses)),
    fun free => congrArg _ (if_neg fun uses => free ((s.inUse_iff seg).1 uses))⟩

/-! ### The timebase's events (R127, R136, R153, R156, R159) -/

theorem exec_blockPeriodEnd (s : State) : exec .blockPeriodEnd s = .next s.takePeriodEnd := rfl
theorem exec_settleEnd (s : State) : exec .settleEnd s = .next s.takeSettleEnd := rfl
theorem exec_periodicPosition (s : State) : exec .periodicPosition s = .next s.takePeriodicPosition := rfl

/-- A rise with the carries it presents (R153, R156, R159). -/
theorem Timer.rise_eq (t : Timer) (c : ConfigRecord) (settling : Bool) :
    let n := (t.count + 1) % 65536
    let carry := t.armed = true ∧ n % (8 * 2 ^ c.watchdogCode) = 0
    t.rise c settling = {
      count := n
      watchdog := if carry ∧ t.watchdog < 3 then t.watchdog + 1 else t.watchdog
      armed := t.armed
      expiryDue := t.expiryDue || decide (carry ∧ 3 ≤ t.watchdog)
      settleDue := decide (settling = true ∧ c.settle ≤ n)
      positionDue := t.positionDue || decide (n % 128 = 0) } := by
  simp only [rise, watchdogPeriod, Bool.and_eq_true, Bool.decide_and, Bool.decide_eq_true, beq_eq_decide,
    decide_eq_true_eq]

section
variable {s : State}

theorem State.takeSettleEnd_due (due : s.timer.settleDue = true) :
    let t := { s with timer := { s.timer with settleDue := false } }
    s.takeSettleEnd = if s.tray.state = .settling then { t with tray := { s.tray with state := .awaitId } } else t :=
  if_pos due

theorem State.takePeriodicPosition_due (due : s.timer.positionDue = true) :
    let t := { s with timer := { s.timer with positionDue := false } }
    s.takePeriodicPosition
      = if s.table.config.positionMode = .periodic ∧ s.out.play ≠ .idle ∧ s.out.play ≠ .halted
        then t.post (.position .periodic (s.tray.saved.getD s.cursorPosition) s.out.play) else t :=
  if_pos due

/-- The offset of the cursor's position (R112, log 12). -/
def State.cursorOffset (s : State) : Nat :=
  match s.out.cursor with
  | .head off => off
  | .finished => 479
  | .none | .waiting | .next => s.out.startOffset

theorem State.cursorPosition_of_held {x : Slot} {rest : List Slot} (held : s.store.slots = x :: rest) :
    s.cursorPosition = ⟨x.segment, x.address, s.cursorOffset⟩ := by
  rw [cursorPosition, cursorOffset, State.waitingPosition_of_held held]
  cases s.out.cursor <;> rfl

theorem State.cursorPosition_of_empty (empty : s.store.slots = []) :
    s.cursorPosition = ⟨s.track.segment, s.track.expected, s.cursorOffset⟩ := by
  rw [cursorPosition, cursorOffset, State.waitingPosition_of_empty empty]
  cases s.out.cursor <;> rfl

end

/-- Settles O49: the rise by its carries, the settle end by the tray, the report by its position. -/
theorem timebaseEventsHaveTheirEffects : Obligations.TimebaseEventsHaveTheirEffects := by
  refine ⟨?_, ?_, ?_⟩
  · intro s full n carry
    have due : s.periodEndDue = true := decide_eq_true full
    rw [exec_blockPeriodEnd, State.takePeriodEnd, if_pos due, Timer.rise_eq]
    simp only [beq_iff_eq]
    rfl
  · intro s due t
    rw [exec_settleEnd, State.takeSettleEnd_due due]
    exact ⟨fun settling => congrArg _ (if_pos settling), fun other => congrArg _ (if_neg other)⟩
  · intro s due t offset
    rw [exec_periodicPosition, State.takePeriodicPosition_due due]
    refine ⟨fun periodic idle halted => ?_, fun off => congrArg _ (if_neg fun on => ?_)⟩
    · rw [if_pos ⟨periodic, idle, halted⟩]
      refine ⟨fun pos saved => ?_, fun x rest unsaved held => ?_, fun unsaved empty => ?_⟩
      · rw [saved]
        rfl
      · rw [unsaved, State.cursorPosition_of_held held]
        rfl
      · rw [unsaved, State.cursorPosition_of_empty empty]
        rfl
    · obtain ⟨periodic, idle, halted⟩ := on
      exact off.elim (absurd periodic) fun it => it.elim idle halted

/-! ### PAUSED_ENTRY and the start test (R116, R120, R122) -/

theorem exec_pausedEntry (s : State) : exec .pausedEntry s = .next s.takePausedEntry := rfl
theorem exec_startTestPass (s : State) : exec .startTestPass s = .next s.takeStartTest := rfl
theorem exec_starvedRecovery (s : State) : exec .starvedRecovery s = .next s.takeStarvedRecovery := rfl

/-- Settles O50: each event by its play state and its test. -/
theorem playBeginsAndPausesAtSilence : Obligations.PlayBeginsAndPausesAtSilence := by
  intro s begun enough
  have test : s.startTest = true ↔ enough := s.startTest_iff
  have begins : s.beginPlaying = begun := s.beginPlaying_eq
  refine ⟨fun pausing mute => ?_, fun priming pass => ?_, fun priming wait => ?_, fun starved mute pass => ?_,
    fun starved mute wait => ?_⟩
  · rw [exec_pausedEntry, State.takePausedEntry, if_pos ⟨pausing, mute⟩, State.enter_eq]
    rfl
  · rw [exec_startTestPass, State.takeStartTest, if_pos ⟨priming, test.2 pass⟩, begins]
  · rw [exec_startTestPass, State.takeStartTest, if_neg fun due => wait (test.1 due.2)]
  · rw [exec_starvedRecovery, State.takeStarvedRecovery, if_pos ⟨starved, mute, test.2 pass⟩, begins]
  · rw [exec_starvedRecovery, State.takeStarvedRecovery, if_neg fun due => wait (test.1 due.2.2)]

/-! ### What cannot come (log 1, 6, 7, 10) -/

section
variable {s : State}

/-- The change to DROPPED is not due: g sounds, no DROP is in FADING, or the cursor is at rest (R147, R150). -/
theorem State.dropDue_false (off : s.gain.fade ≠ 0 ∨ (∀ p ∈ s.out.plan, p.kind ≠ .drop ∨ p.phase ≠ .fading)
    ∨ ¬ (s.out.play = .playing ∨ s.out.play = .pausing ∨ s.out.play = .stopping
      ∨ (s.out.play = .trayHold ∧ s.tray.state = .fading))) : s.dropDue = false := by
  rw [← Bool.not_eq_true, State.dropDue, Bool.and_eq_true, Bool.and_eq_true, beq_iff_eq, State.moving_iff]
  rintro ⟨⟨moving, mute⟩, drop⟩
  rcases off with sounds | past | still
  · exact sounds mute
  · split at drop
    · rename_i p planned
      rw [Bool.and_eq_true, beq_iff_eq, beq_iff_eq] at drop
      exact (past p planned).elim (absurd drop.1) (absurd drop.2)
    · cases drop
  · exact still moving

/-- While a frame is being sent nothing else is (R42). -/
theorem exec_send_busy (sending : s.link.sending.isSome = true) : exec .seekSend s = .next s
    ∧ exec .readPauseSend s = .next s ∧ exec .reportSend s = .next s := by
  have busy : s.link.sending ≠ none := Option.isSome_iff_ne_none.1 sending
  have seek : ¬ s.seekDue = true := fun due => busy ((State.seekDue_iff s).1 due).1
  have pause : ¬ s.pauseDue = true := fun due => busy ((State.pauseDue_iff s).1 due).1
  have report : ¬ s.reportDue = true := fun due => busy ((State.reportDue_iff s).1 due).1
  refine ⟨?_, congrArg _ (if_neg pause), ?_⟩
  · rw [exec_seekSend, execSeekSend.eq_def]
    split
    · rw [if_neg seek]
    · rfl
  · rw [exec_reportSend, execReportSend.eq_def]
    split
    · rw [if_neg report]
    · rfl

end

/-- Settles O3: row by row, by the one condition each row has. -/
theorem whatCannotComeHasNoEffect : Obligations.WhatCannotComeHasNoEffect := by
  intro s
  refine ⟨fun low => ?_, fun clear => ?_, fun clear => ?_, fun clear => ?_, fun off => ?_, fun off => ?_, fun off => ?_,
    fun upset off => ?_, fun code params low high => ?_, fun format record low high => ?_, fun other => ?_,
    fun off => ?_, fun other => ?_, fun off => ?_, exec_send_busy, fun low => ?_, fun high => ?_, fun f size => ?_,
    fun unit passes => ?_⟩
  · exact congrArg _ (if_neg fun due => Nat.not_le.2 low (of_decide_eq_true due))
  iterate 3 exact congrArg _ (if_neg (by rw [clear]; decide))
  iterate 2 exact congrArg _ (if_neg fun due => off.elim (absurd due.1) (absurd due.2))
  · refine congrArg _ (if_neg fun due => ?_)
    obtain ⟨before, mute⟩ := due
    rw [State.beforeSave, Bool.and_eq_true, beq_iff_eq, beq_iff_eq] at before
    exact off.elim (absurd before.1) fun off => off.elim (absurd before.2) (absurd mute)
  · have still : (s.withLoss upset).dropDue = false := State.dropDue_false (s := s.withLoss upset) off
    rw [exec_dropped, State.takeDropped, still, if_neg Bool.false_ne_true]
  · exact congrArg _ (if_pos (decide_eq_true ⟨low, high⟩))
  · exact congrArg _ (if_pos (decide_eq_true ⟨low, high⟩))
  · exact congrArg _ (if_neg fun due => other due.1)
  · exact congrArg _ (if_neg fun due => off.elim (absurd due.1) (absurd due.2.1))
  · exact congrArg _ (if_neg fun due => other ((State.refillTest_iff s).1 due).1)
  · rw [exec_placeholderRun, State.takePlaceholderRun]
    split
    · rfl
    · rename_i run owes
      exact congrArg _ (if_neg fun due => off.elim (absurd due.1) fun away => by cases away.symm.trans owes)
  · rw [exec, execOpenEdge, State.takeOpenEdge, low]
  · rw [exec, execCloseEdge, State.takeCloseEdge, high]
  · exact congrArg _ (if_neg size)
  · rw [exec, execRefusedForwardUnit, passes]

end Sys2Proof.Machine
end

section
/-! SUPPORT. HALTED: what is frozen there, and the frames it refuses (spec/03, spec/06, spec/10). -/

namespace Sys2Proof.Machine

/-! ### What HALTED freezes (R15, R106, R128) -/

/-- What no step from HALTED to the second state moves. -/
structure State.Frozen (s t : State) : Prop where
  out : t.out = { s.out with samples := t.out.samples, audio := t.out.audio }
  store : t.store = s.store
  faults : t.faults = s.faults
  track : t.track = s.track
  fill : t.fill = s.fill
  armed : t.timer.armed = s.timer.armed

/-- The part halted: the play state, the fill state and the watchdog agree. -/
structure State.AtHalt (s : State) : Prop where
  play : s.out.play = .halted
  fill : s.fill.state = .halted
  armed : s.timer.armed = false

section
variable {s t u : State}

theorem State.Frozen.refl (s : State) : s.Frozen s := ⟨rfl, rfl, rfl, rfl, rfl, rfl⟩

theorem State.Frozen.of_eq (same : t = s) : s.Frozen t := same ▸ .refl s

theorem State.Frozen.trans (h : s.Frozen t) (k : t.Frozen u) : s.Frozen u where
  out := by rw [k.out, h.out]
  store := k.store.trans h.store
  faults := k.faults.trans h.faults
  track := k.track.trans h.track
  fill := k.fill.trans h.fill
  armed := k.armed.trans h.armed

theorem State.Frozen.post (h : s.Frozen t) (r : Report) : s.Frozen (t.post r) where
  out := by rw [State.post_out]; exact h.out
  store := (t.post_store r).trans h.store
  faults := (t.post_faults r).trans h.faults
  track := (t.post_track r).trans h.track
  fill := (t.post_fill r).trans h.fill
  armed := (congrArg Timer.armed (t.post_timer r)).trans h.armed

theorem State.Frozen.atHalt (h : s.Frozen t) (halt : s.AtHalt) : t.AtHalt where
  play := by rw [h.out]; exact halt.play
  fill := by rw [h.fill]; exact halt.fill
  armed := h.armed.trans halt.armed

/-! ### The events of the part in HALTED -/

theorem State.AtHalt.still (halt : s.AtHalt) : s.moving = false := by
  rw [← Bool.not_eq_true, State.moving_iff, halt.play]
  rintro (it | it | it | ⟨it, -⟩) <;> cases it

theorem State.takePeriodEnd_frozen (s : State) : s.Frozen s.takePeriodEnd := by
  rw [takePeriodEnd]
  split
  · exact ⟨rfl, rfl, rfl, rfl, rfl, rfl⟩
  · exact .refl s

theorem State.takeSettleEnd_frozen (s : State) : s.Frozen s.takeSettleEnd := by
  rw [takeSettleEnd]
  split
  · dsimp only
    split <;> exact ⟨rfl, rfl, rfl, rfl, rfl, rfl⟩
  · exact .refl s

theorem State.takePeriodicPosition_frozen (s : State) : s.Frozen s.takePeriodicPosition := by
  have cleared : s.Frozen { s with timer := { s.timer with positionDue := false } } := ⟨rfl, rfl, rfl, rfl, rfl, rfl⟩
  rw [takePeriodicPosition]
  split
  · dsimp only
    split
    · exact cleared.post _
    · exact cleared
  · exact .refl s

/-- A disarmed watchdog's expiry takes nothing (R158). -/
theorem State.takeExpiry_frozen (halt : s.AtHalt) : s.Frozen s.takeExpiry := by
  rw [takeExpiry]
  split
  · dsimp only
    rw [if_pos halt.armed]
    exact ⟨rfl, rfl, rfl, rfl, rfl, rfl⟩
  · exact .refl s

theorem State.takeDropped_halted (halt : s.AtHalt) : s.takeDropped = s := by
  have still : s.dropDue = false := State.dropDue_false (.inr (.inr fun moving => by
    rw [← State.moving_iff, halt.still] at moving
    cases moving))
  rw [takeDropped, still, if_neg Bool.false_ne_true]

theorem State.takePausedEntry_halted (halt : s.AtHalt) : s.takePausedEntry = s :=
  if_neg fun due => by cases due.1.symm.trans halt.play

theorem State.takeStopCompletion_halted (halt : s.AtHalt) : s.takeStopCompletion = s :=
  if_neg fun due => by cases due.1.symm.trans halt.play

theorem State.takeSaveStep_halted (halt : s.AtHalt) : s.takeSaveStep = s := by
  have still : s.beforeSave = false := by rw [beforeSave, halt.play]; rfl
  rw [takeSaveStep, still, if_neg fun due => Bool.false_ne_true due.1]

theorem State.takeStartTest_halted (halt : s.AtHalt) : s.takeStartTest = s :=
  if_neg fun due => by cases due.1.symm.trans halt.play

theorem State.takeStarvedRecovery_halted (halt : s.AtHalt) : s.takeStarvedRecovery = s :=
  if_neg fun due => by cases due.1.symm.trans halt.play

theorem State.takeRefill_halted (halt : s.AtHalt) : s.takeRefill = s :=
  if_neg fun due => by cases ((State.refillTest_iff s).1 due).1.symm.trans halt.fill

theorem State.takePlaceholderRun_halted (halt : s.AtHalt) : s.takePlaceholderRun = s := by
  rw [takePlaceholderRun]
  split
  · rfl
  · exact if_neg fun due => by cases due.1.symm.trans halt.fill

theorem State.takeDue_frozen (halt : s.AtHalt) : s.Frozen s.takeDue := by
  have ended := s.takePeriodEnd_frozen
  have expired := ended.trans (State.takeExpiry_frozen (ended.atHalt halt))
  have settled := expired.trans (State.takeSettleEnd_frozen _)
  have reported := settled.trans (State.takePeriodicPosition_frozen _)
  have halted := reported.atHalt halt
  rw [takeDue, State.takeDropped_halted halted, State.takePausedEntry_halted halted,
    State.takeStopCompletion_halted halted, State.takeSaveStep_halted halted, State.takeRefill_halted halted,
    State.takePlaceholderRun_halted halted, State.takeStartTest_halted halted, State.takeStarvedRecovery_halted halted]
  exact reported

/-! ### The sample period in HALTED -/

/-- Where the cursor does not move a sample period only sends a pair and is counted (R113, R133). -/
theorem State.period_still (still : s.moving = false) : s.period = s.sounded s.handOn.1 := by
  have head : s.headDue = false := by rw [headDue, still]; rfl
  have handed : s.handOn = (s.handOn.1, s) := congrArg (Prod.mk s.handOn.1) (State.handOn_still still)
  have rest : (s.sound s.handOn.1).blockDone = false := by
    rw [blockDone, show (s.sound s.handOn.1).moving = s.moving from rfl, still]
    rfl
  rw [State.period_of_handOn head handed, if_neg fun due => Bool.false_ne_true (rest.symm.trans due.1)]
  simp only [State.sound, State.counted, State.sounded, still, Bool.false_eq_true, false_and, if_false, Option.map_id',
    moveFade]

theorem State.sounded_frozen (s : State) (pair : Pair) : s.Frozen (s.sounded pair) := ⟨rfl, rfl, rfl, rfl, rfl, rfl⟩

/-! ### The edges and the frames in HALTED -/

/-- A halted part has no fade to start (R166). -/
theorem State.openFromClosed_halted (halted : s.out.play = .halted) :
    s.openFromClosed = { s with tray := { s.tray with state := .opened, fingerprint := none } } := by
  rw [openFromClosed, halted]

theorem State.takeOpenEdge_frozen (halt : s.AtHalt) : s.Frozen s.takeOpenEdge := by
  rw [takeOpenEdge]
  split
  · exact .refl s
  · refine State.Frozen.post ?_ _
    dsimp only
    split
    · rw [State.openFromClosed_halted (s := { s with tray := s.tray.takeEdge .low }) halt.play]
      exact ⟨rfl, rfl, rfl, rfl, rfl, rfl⟩
    all_goals exact ⟨rfl, rfl, rfl, rfl, rfl, rfl⟩

theorem State.takeCloseEdge_frozen (s : State) : s.Frozen s.takeCloseEdge := by
  rw [takeCloseEdge]
  split
  · exact .refl s
  · refine State.Frozen.post ?_ _
    dsimp only
    split <;> exact ⟨rfl, rfl, rfl, rfl, rfl, rfl⟩

theorem State.query_frozen (s : State) (params : List Byte) : s.Frozen (s.query params) := by
  have posted (r : Report) : s.Frozen (s.post r) := (State.Frozen.refl s).post r
  rw [query.eq_def]
  split
  · split_ifs
    · exact State.Frozen.post (t := { s with link := { s.link with noisy := 0 } }) ⟨rfl, rfl, rfl, rfl, rfl, rfl⟩ _
    all_goals exact posted _
  · split_ifs
    · exact posted _
    · split <;> exact posted _
    · exact posted _
  · exact posted _

theorem State.seekAnswer_frozen (halt : s.AtHalt) (tag : Tag) (status : SeekStatus) :
    s.Frozen (s.seekAnswer tag status) := by
  rw [seekAnswer, if_neg fun due => by cases due.2.1.symm.trans halt.fill]
  exact (State.Frozen.refl s).post _

/-- A COMMAND other than QUERY and RESET is refused whatever its form (R129). -/
theorem State.commanded_halted (s t : State) (code : Byte) (form : Bool) (halted : s.out.play = .halted) :
    s.commanded code form t = s.post (.result .command code .halted false) :=
  if_pos halted

/-- A TABLE frame is refused whatever its form (R129). -/
theorem State.loaded_halted (s t : State) (format : Byte) (length : Bool) (halted : s.out.play = .halted) :
    s.loaded format length t = s.post (.result .table format .halted false) :=
  if_pos halted

section
variable (halted : s.out.play = .halted) (b : List Byte)
include halted

theorem exec_command_halted :
    exec (.play b) s = .next (s.post (.result .command 0x01#8 .halted false))
    ∧ exec (.pause b) s = .next (s.post (.result .command 0x02#8 .halted false))
    ∧ exec (.resume b) s = .next (s.post (.result .command 0x03#8 .halted false))
    ∧ exec (.stop b) s = .next (s.post (.result .command 0x04#8 .halted false))
    ∧ exec (.setLevel b) s = .next (s.post (.result .command 0x05#8 .halted false))
    ∧ exec (.setStop b) s = .next (s.post (.result .command 0x06#8 .halted false))
    ∧ exec (.setRepeat b) s = .next (s.post (.result .command 0x07#8 .halted false))
    ∧ exec (.cue b) s = .next (s.post (.result .command 0x08#8 .halted false))
    ∧ exec (.identify b) s = .next (s.post (.result .command 0x09#8 .halted false))
    ∧ exec (.ackTray b) s = .next (s.post (.result .command 0x0A#8 .halted false))
    ∧ exec (.clearTimebase b) s = .next (s.post (.result .command 0x0B#8 .halted false)) := by
  have refused (t code form) := congrArg (Host.Outcome.next (φ := Fault) (ρ := Refusal)) (
    s.commanded_halted t code form halted)
  refine ⟨?_, refused .., refused .., refused .., ?_, ?_, ?_, refused .., ?_, refused .., refused ..⟩
  · rw [exec, execPlay.eq_def]
    split <;> exact refused ..
  · rw [exec, execSetLevel.eq_def]
    split <;> exact refused ..
  · rw [exec, execSetStop.eq_def]
    split <;> exact refused ..
  · rw [exec, execSetRepeat.eq_def]
    split <;> exact refused ..
  · rw [exec, execIdentify.eq_def]
    split <;> exact refused ..

theorem exec_load_halted :
    exec (.segmentLoad b) s = .next (s.post (.result .table 0x11#8 .halted false))
    ∧ exec (.profileLoad b) s = .next (s.post (.result .table 0x12#8 .halted false))
    ∧ exec (.configLoad b) s = .next (s.post (.result .table 0x13#8 .halted false))
    ∧ exec (.resumeLoad b) s = .next (s.post (.result .table 0x14#8 .halted false)) := by
  have refused (t format length) := congrArg (Host.Outcome.next (φ := Fault) (ρ := Refusal)) (
    s.loaded_halted t format length halted)
  refine ⟨?_, ?_, ?_, ?_⟩
  · rw [exec, execSegmentLoad.eq_def]
    split <;> exact refused ..
  · rw [exec, execProfileLoad.eq_def]
    split <;> exact refused ..
  · rw [exec, execConfigLoad.eq_def]
    split <;> exact refused ..
  · rw [exec, execResumeLoad.eq_def]
    split <;> exact refused ..

theorem exec_unknown_halted :
    (unknownCode b → exec (.unknownCommandCode b) s
      = .next (s.post (.result .command (b.headD 0x00#8) .halted false)))
    ∧ (unknownFormat b → exec (.unknownTableFormat b) s
      = .next (s.post (.result .table (b.headD 0x00#8) .halted false))) := by
  refine ⟨fun unknown => ?_, fun unknown => ?_⟩
  · rw [exec, execUnknownCommandCode, unknown.2, if_neg Bool.false_ne_true, State.commanded_halted _ _ _ _ halted]
  · rw [exec, execUnknownTableFormat, unknown.2, if_neg Bool.false_ne_true, State.loaded_halted _ _ _ _ halted]

end

/-! ### Every row in HALTED -/

/-- The bytes a row says the DRAM lost by itself (log 10). -/
def upsetOf : Instr → List (Nat × Byte)
  | .samplePeriod upset | .dropped upset => upset
  | _ => []

theorem upsetOf_of_keepsDram {c : Instr} (keeps : c.keepsDram = true) : upsetOf c = [] := by
  cases c with
  | samplePeriod upset => exact List.isEmpty_iff.1 keeps
  | dropped upset => exact List.isEmpty_iff.1 keeps
  | _ => rfl

theorem exec_send_frozen (s : State) : (∃ t, exec .seekSend s = .next t ∧ s.Frozen t)
    ∧ (∃ t, exec .readPauseSend s = .next t ∧ s.Frozen t) ∧ ∃ t, exec .reportSend s = .next t ∧ s.Frozen t := by
  refine ⟨⟨_, exec_seekSend s, ?_⟩, ⟨_, exec_readPauseSend s, ?_⟩, ⟨_, exec_reportSend s, ?_⟩⟩
  · split
    · split <;> exact ⟨rfl, rfl, rfl, rfl, rfl, rfl⟩
    · exact .refl s
  · split <;> exact ⟨rfl, rfl, rfl, rfl, rfl, rfl⟩
  · split
    · split <;> exact ⟨rfl, rfl, rfl, rfl, rfl, rfl⟩
    · exact .refl s

/-- Every row but a reset keeps what is frozen, short of the bytes it says the DRAM lost. -/
theorem exec_frozen (halt : s.AtHalt) {c : Instr} (hard : ∀ line, c ≠ .hardReset line) (soft : c ≠ .softReset []) :
    ∃ t, exec c s = .next t ∧ (s.upset (upsetOf c)).Frozen t := by
  have posted (r : Report) : s.Frozen (s.post r) := (State.Frozen.refl s).post r
  have same {t : State} (same : t = s) : s.Frozen t := .of_eq same
  cases c with
  | hardReset line => exact absurd rfl (hard line)
  | refusedForwardUnit unit =>
    refine ⟨_, rfl, ?_⟩
    split
    · exact posted _
    · exact .refl s
  | sector f =>
    by_cases size : f.payload.length = 1920
    · have heard : s.Frozen (s.heard f) := ⟨rfl, rfl, rfl, rfl, rfl, rfl⟩
      exact ⟨_, exec_sector size, heard.trans (.of_eq (State.arrive_ignored _ (.inr (.inr halt.fill))))⟩
    · exact ⟨s, congrArg Host.Outcome.next (if_neg size), .refl s⟩
  | seekDone tag status => exact ⟨_, rfl, State.seekAnswer_frozen halt tag status⟩
  | softReset b =>
    obtain ⟨x, rest, rfl⟩ := List.exists_cons_of_ne_nil (l := b) fun empty => soft (congrArg _ empty)
    exact ⟨_, rfl, posted _⟩
  | queryStatus b => exact ⟨_, rfl, State.query_frozen s _⟩
  | queryTable b => exact ⟨_, rfl, State.query_frozen s b⟩
  | openEdge => exact ⟨_, rfl, State.takeOpenEdge_frozen halt⟩
  | closeEdge => exact ⟨_, rfl, s.takeCloseEdge_frozen⟩
  | samplePeriod upset =>
    have lost : (s.upset upset).AtHalt := ⟨halt.play, halt.fill, halt.armed⟩
    have due := State.takeDue_frozen lost
    refine ⟨_, rfl, ?_⟩
    rw [State.period_still (due.atHalt lost).still]
    exact due.trans (State.sounded_frozen _ _)
  | dropped upset =>
    exact ⟨_, rfl, .of_eq (State.takeDropped_halted (s := s.upset upset) ⟨halt.play, halt.fill, halt.armed⟩)⟩
  | blockPeriodEnd => exact ⟨_, rfl, s.takePeriodEnd_frozen⟩
  | watchdogExpiry => exact ⟨_, rfl, State.takeExpiry_frozen halt⟩
  | settleEnd => exact ⟨_, rfl, s.takeSettleEnd_frozen⟩
  | periodicPosition => exact ⟨_, rfl, s.takePeriodicPosition_frozen⟩
  | stopCompletion => exact ⟨_, rfl, same (State.takeStopCompletion_halted halt)⟩
  | pausedEntry => exact ⟨_, rfl, same (State.takePausedEntry_halted halt)⟩
  | saveStep => exact ⟨_, rfl, same (State.takeSaveStep_halted halt)⟩
  | startTestPass => exact ⟨_, rfl, same (State.takeStartTest_halted halt)⟩
  | starvedRecovery => exact ⟨_, rfl, same (State.takeStarvedRecovery_halted halt)⟩
  | refill => exact ⟨_, rfl, same (State.takeRefill_halted halt)⟩
  | placeholderRun => exact ⟨_, rfl, same (State.takePlaceholderRun_halted halt)⟩
  | seekSend => exact (exec_send_frozen s).1
  | readPauseSend => exact (exec_send_frozen s).2.1
  | reportSend => exact (exec_send_frozen s).2.2
  | reverseFrameEnd => exact ⟨_, rfl, ⟨rfl, rfl, rfl, rfl, rfl, rfl⟩⟩
  | unknownCommandCode body =>
    refine ⟨_, rfl, ?_⟩
    split
    · exact .refl s
    · rw [State.commanded_halted _ _ _ _ halt.play]
      exact posted _
  | unknownTableFormat body =>
    refine ⟨_, rfl, ?_⟩
    split
    · exact .refl s
    · rw [State.loaded_halted _ _ _ _ halt.play]
      exact posted _
  | _ =>
    obtain ⟨play, pause, resume, stop, level, stopAt, rep, cue, identify, ack, clear⟩ :=
      exec_command_halted halt.play ‹List Byte›
    obtain ⟨segment, profile, config, record⟩ := exec_load_halted halt.play ‹List Byte›
    exact ⟨_, by assumption, posted _⟩

end

/-- Settles O16: row by row what is frozen, and the refusal of every form of frame. -/
theorem haltedStaysFrozen : Obligations.HaltedStaysFrozen := by
  refine ⟨fun s t c play fill armed hard soft next => ?_, fun s b halted => ?_⟩
  · obtain ⟨u, runs, frozen⟩ := exec_frozen ⟨play, fill, armed⟩ hard soft
    cases runs.symm.trans next
    refine ⟨frozen.out, by rw [frozen.store]; rfl, fun keeps => ?_, frozen.faults, frozen.track, frozen.fill,
      frozen.armed.trans armed⟩
    rw [frozen.store, upsetOf_of_keepsDram keeps]
    rfl
  · obtain ⟨play, pause, resume, stop, level, stopAt, rep, cue, identify, ack, clear⟩ := exec_command_halted halted b
    obtain ⟨segment, profile, config, record⟩ := exec_load_halted halted b
    obtain ⟨code, format⟩ := exec_unknown_halted halted b
    exact ⟨play, pause, resume, stop, level, stopAt, rep, cue, identify, ack, clear, segment, profile, config, record,
      code, format⟩

end Sys2Proof.Machine
end

section
/-! SUPPORT. The one pair of a sample period, and the bytes the DRAM loses (spec/06; log 2, 10). -/

namespace Sys2Proof.Machine

section
variable {s : State}

/-- A silent pair where the cursor is at rest, the held pair in STARVED (R113). -/
theorem State.handOn_still_pair (still : s.moving = false) :
    s.handOn.1 = if s.out.play = .starved then s.heldPair else Pair.zero := by
  rw [State.handOn, still, if_neg Bool.false_ne_true]
  split <;> rfl

/-- A cursor that waits holds the pair (R113, R118). -/
theorem State.period_waiting (moving : s.moving = true) (cursor : s.out.cursor = .waiting) (plan : s.out.plan = none) :
    s.period = s.sounded s.heldPair := by
  have head : s.headDue = false := by simp [State.headDue, cursor]
  have handed : s.handOn = (s.heldPair, s) := by simp only [State.handOn, moving, if_true, cursor]
  have going : (s.sound s.heldPair).blockDone = false := by
    rw [State.blockDone, show (s.sound s.heldPair).out.cursor = _ from cursor]
    exact Bool.and_false _
  rw [State.period_of_handOn head handed, if_neg fun due => Bool.false_ne_true (going.symm.trans due.1),
    State.sound_counted plan]

theorem State.still_of (quiet : s.out.play = .idle ∨ s.out.play = .priming ∨ s.out.play = .paused
    ∨ s.out.play = .halted ∨ (s.out.play = .trayHold ∧ s.tray.state ≠ .fading)) :
    s.moving = false ∧ s.out.play ≠ .starved := by
  rw [← Bool.not_eq_true, State.moving_iff]
  rcases quiet with play | play | play | play | ⟨play, past⟩ <;> simp [*]

end

/-- What the DRAM loses at one address (log 10). -/
theorem Memory.read_upset (d : List Host.Cell) (a x : Nat) (b : Byte) :
    Memory.read (Memory.upset d [(a, b)]) x = if a < 4194304 ∧ x = a then b else Memory.read d x := by
  have lost : Memory.upset d [(a, b)] = if a < 4194304 then Memory.write d a [b] else d := rfl
  rw [lost]
  by_cases inside : a < 4194304
  · rw [if_pos inside, Memory.read_write, List.length_singleton]
    by_cases here : x = a
    · rw [if_pos ⟨here.ge, by omega⟩, if_pos ⟨inside, here⟩, here, Nat.sub_self]
      rfl
    · rw [if_neg (by omega), if_neg fun it => here it.2]
  · rw [if_neg inside, if_neg fun it => inside it.1]

/-- Settles O52: the due rows, the pair by the play state, and the one byte lost. -/
theorem samplePeriodSendsOnePair : Obligations.SamplePeriodSendsOnePair := by
  refine ⟨fun s upset => congrArg (fun t : State => Host.Outcome.next t.period) (s.withLoss upset).takeDue_eq,
    fun s upset quiet => ?_, fun d a x b _ => Memory.read_upset d a x b⟩
  intro u
  have due : u.takeDue = u := State.takeDue_of_nothingDue (s := u) quiet
  have period : exec (.samplePeriod upset) s = .next u.period :=
    congrArg (fun t : State => Host.Outcome.next t.period) due
  refine ⟨period, fun rest => ?_, fun held => ?_⟩
  · obtain ⟨still, sounds⟩ := State.still_of (s := u) rest
    rw [period, State.period_still still, State.handOn_still_pair still, if_neg sounds]
    exact ⟨rfl, Pair.scale_zero _⟩
  · rw [period]
    refine congrArg _ ?_
    rcases held with starved | ⟨cursor, plan, fading⟩
    · have still : u.moving = false := by
        rw [← Bool.not_eq_true, State.moving_iff, show u.out.play = _ from starved]
        rintro (it | it | it | ⟨it, -⟩) <;> cases it
      rw [State.period_still still, State.handOn_still_pair still, if_pos (show u.out.play = _ from starved)]
      rfl
    · exact State.period_waiting ((State.moving_iff u).2 (.inr fading)) cursor plan

end Sys2Proof.Machine
end

section
/-! SUPPORT. A plan played pair by pair (spec/06, spec/07). -/

namespace Sys2Proof.Machine

/-! ### What follows a pair does not read the count of sample periods (R118, R148) -/

theorem State.segmentEntered_counted (s : State) (x : Slot) (o : Nat) :
    s.counted.segmentEntered x o = (s.segmentEntered x o).counted := by
  by_cases same : s.out.cursorSegment = some x.segment
  · rw [State.segmentEntered, State.segmentEntered, if_pos same,
      if_pos (show s.counted.out.cursorSegment = some x.segment from same)]
  · rw [State.segmentEntered, State.segmentEntered, if_neg same,
      if_neg (show ¬ s.counted.out.cursorSegment = some x.segment from same)]
    dsimp only
    by_cases off : s.table.config.positionMode = .off
    · rw [if_pos off, if_pos (show s.counted.table.config.positionMode = .off from off)]
      rfl
    · rw [if_neg off, if_neg (show ¬ s.counted.table.config.positionMode = .off from off), ← State.post_counted]
      rfl

theorem State.planEnd_counted (s : State) (kind : PlanKind) : s.counted.planEnd kind = (s.planEnd kind).counted := by
  rcases held : s.store.slots with _ | ⟨x, rest⟩
  · rw [State.planEnd_empty kind held, State.planEnd_empty (s := s.counted) kind held, State.boundaryTested_counted]
  · have held' : s.counted.store.slots = x :: rest := held
    rcases good : x.quality.readable with _ | _
    · rw [State.planEnd_bad kind held good, State.planEnd_bad kind held' good, State.boundaryTested_counted]
    · rcases read : s.store.readBlock 0 with _ | pairs
      · rw [State.planEnd_failed kind held good read, State.planEnd_failed (s := s.counted) kind held good read,
          ← State.post_counted]
        rfl
      · have entered := State.segmentEntered_counted { s with out := { s.out with plan := none } } x 0
        rw [State.planEnd_good kind held good read, State.planEnd_good (s := s.counted) kind held good read,
          show { s.counted with out := { s.counted.out with plan := none } }
            = State.counted { s with out := { s.out with plan := none } } from rfl, entered]
        rfl

theorem State.blockConsumed_counted (s : State) (x : Slot) (rest : List Slot) :
    s.counted.blockConsumed x rest = (s.blockConsumed x rest).counted := by
  rcases planned : s.out.plan with _ | p
  · simp only [State.blockConsumed, planned, show s.counted.out.plan = none from planned,
      State.consumedHead_counted, State.boundaryTested_counted]
  · have silenced : (if p.lateCut = true ∧ p.left = p.runLength
        then { s.counted with gain := { s.counted.gain with fade := 0 } } else s.counted)
        = State.counted (if p.lateCut = true ∧ p.left = p.runLength
          then { s with gain := { s.gain with fade := 0 } } else s) := by
      split <;> rfl
    simp only [State.blockConsumed, planned, show s.counted.out.plan = some p from planned, silenced,
      State.consumedHead_counted]
    generalize State.consumedHead (if p.lateCut = true ∧ p.left = p.runLength
      then { s with gain := { s.gain with fade := 0 } } else s) x rest = c
    split
    · rfl
    · split
      · exact State.boundaryTested_counted c
      · exact State.planEnd_counted { c with out := { c.out with plan := some { p with left := 0 } } } p.kind

/-! ### The cut fade of a run's slot (R149) -/

/-- The cut fade of a slot under a plan is due at an offset, for a cut of `fc` samples (R149). -/
abbrev Plan.cutsAt (p : Plan) (x : Slot) (off fc : Nat) : Prop :=
  x.cutAfter = true ∧ (off + fc = 480 ∨ (p.progress = 0 ∧ 480 < p.firstOffset + fc))

/-- The cut fade asked for under a plan that plays: the gain takes it where it sounds, the plan whether it is late. -/
def State.planCut (s : State) (p : Plan) (x : Slot) (off : Nat) : State :=
  let fc := min (64 * 2 ^ s.currentProfile.fadeCode) 256
  { s with
    gain := if p.cutsAt x off fc ∧ 0 < s.gain.fade
      then { s.gain with target := 0, step := 32768 / fc, source := StepSource.fixed } else s.gain
    out := { s.out with
      plan := some { p with lateCut := if p.cutsAt x off fc then decide (480 < off + fc) else p.lateCut } } }

section
variable {s : State} {p : Plan} {x : Slot} {rest : List Slot} {off : Nat}

theorem State.cutDue_plan (plan : s.out.plan = some p) (plays : p.kind ≠ .drop) : s.cutDue x off = true
    ↔ p.cutsAt x off (min (64 * 2 ^ s.currentProfile.fadeCode) 256) := by
  simp only [State.cutDue, plan, Bool.and_eq_true, Bool.or_eq_true, beq_iff_eq, bne_iff_ne, decide_eq_true_iff]
  exact ⟨fun ⟨cut, _, here⟩ => ⟨cut, here⟩, fun ⟨cut, here⟩ => ⟨cut, plays, here⟩⟩

theorem State.requestCut_plan (plan : s.out.plan = some p) (plays : p.kind ≠ .drop) (held : s.store.slots = x :: rest) :
    s.requestCut off = s.planCut p x off := by
  have due := State.cutDue_plan (x := x) (off := off) plan plays
  simp only [State.requestCut, held, State.planCut]
  by_cases cut : p.cutsAt x off (min (64 * 2 ^ s.currentProfile.fadeCode) 256)
  · rw [if_pos (due.2 cut), if_pos cut]
    by_cases loud : 0 < s.gain.fade
    · rw [if_pos loud, if_pos ⟨cut, loud⟩]
      simp only [State.fixedFade, plan]
      rfl
    · rw [if_neg loud, if_neg fun it => loud it.2]
      simp only [plan]
      rfl
  · have same : ({ p with lateCut := p.lateCut } : Plan) = p := rfl
    rw [if_neg fun it => cut (due.1 it), if_neg fun it : p.cutsAt _ _ _ ∧ _ => cut it.1, if_neg cut, same, ← plan]

/-- A DROP asks for no cut fade (R149). -/
theorem State.requestCut_drop (plan : s.out.plan = some p) (drop : p.kind = .drop) : s.requestCut off = s := by
  rw [State.requestCut]
  split
  · rfl
  · exact if_neg (by simp [State.cutDue, plan, drop])

/-! ### The pair of a plan (R113, R143 to R147) -/

theorem State.handOn_drop (moving : s.moving = true) (cursor : s.out.cursor = .head off) (plan : s.out.plan = some p)
    (drop : p.kind = .drop) : s.handOn = (p.anchorA, s) := by
  have pair : p.pair = p.anchorA := by rw [Plan.pair, drop]
  simp only [State.handOn, moving, if_true, cursor, State.requestCut_drop plan drop, plan, drop, pair]

/-- The state with the pair of a plan that plays handed on: its cut fade asked for, the cursor and the progress
moved. -/
def State.planMoved (s : State) (p : Plan) (x : Slot) (off : Nat) : State :=
  let t := s.planCut p x off
  { t with out := { t.out with
    cursor := cursorAfter off, plan := t.out.plan.map fun q => { q with progress := q.progress + 1 } } }

theorem State.handOn_plan (moving : s.moving = true) (cursor : s.out.cursor = .head off) (plan : s.out.plan = some p)
    (plays : p.kind ≠ .drop) (held : s.store.slots = x :: rest) : s.handOn = (p.pair, s.planMoved p x off) := by
  simp only [State.handOn, moving, if_true, cursor, State.requestCut_plan plan plays held, State.planMoved,
    State.planCut, plays, if_false]
  rfl

/-- The plan after a pair at a gain: a FADE at g = 0 has faded out (R145). -/
def Plan.soundedAt (p : Plan) (g : Nat) : Plan :=
  { p with fadedOut := p.fadedOut || decide (p.kind = .fade ∧ g = 0) }

theorem Plan.soundedAt_eq (p : Plan) (g : Nat) :
    p.soundedAt g = if p.kind = .fade ∧ g = 0 then { p with fadedOut := true } else p := by
  rw [Plan.soundedAt]
  split
  · rw [decide_eq_true ‹_›, Bool.or_true]
  · rw [decide_eq_false ‹_›, Bool.or_false]

/-- The Gain Unit's part of a period under a plan (R133, R134, R138, R145). -/
theorem State.sound_plan (moving : s.moving = true) (plan : s.out.plan = some p) (pair : Pair) :
    let u := s.sounded pair
    (s.sound pair).counted = { u with out := { u.out with plan := some (p.soundedAt u.gain.fade) } } := by
  simp only [Plan.soundedAt_eq, State.sound, State.counted, plan, Option.map_some, moving, true_and]
  rfl

/-- A DROP's pair with the cursor at rest (R147). -/
theorem State.sound_drop (moving : s.moving = true) (plan : s.out.plan = some p) (drop : p.kind = .drop)
    (pair : Pair) : (s.sound pair).counted = s.sounded pair := by
  have other : ¬ (p.kind = .fade ∧ (s.sounded pair).gain.fade = 0) := by
    rw [drop]
    exact fun it => PlanKind.noConfusion it.1
  rw [State.sound_plan moving plan, Plan.soundedAt_eq, if_neg other, ← plan]
  rfl

end

/-- Settles O54: a DROP's pair with the cursor at rest, and of the others the pair and what follows it. -/
theorem plansGiveTheirPairs : Obligations.PlansGiveTheirPairs := by
  intro s p x rest off moving plan cursor low held
  have moves := (State.moving_iff s).2 moving
  have head : s.headDue = false := by simp [State.headDue, cursor]
  refine ⟨fun drop => ?_, fun plays => ?_⟩
  · have going : (s.sound p.anchorA).blockDone = false := by
      rw [State.blockDone, show (s.sound p.anchorA).out.cursor = _ from cursor]
      exact Bool.and_false _
    rw [State.period_of_handOn head (State.handOn_drop moves cursor plan drop),
      if_neg fun due => Bool.false_ne_true (going.symm.trans due.1),
      State.sound_drop moves plan drop]
  · intro fc cut pair gain late moved q u
    have paired : p.pair = pair := by
      simp only [Plan.pair, pair]
      cases kind : p.kind with
      | drop => exact absurd kind plays
      | _ => rfl
    have handed := State.handOn_plan moves cursor plan plays held
    have period := State.period_of_handOn head handed
    let v := (s.planMoved p x off).sound p.pair
    have moves_v : v.moving = true := (State.moving_iff v).2 moving
    have sent : v.counted = u := by
      have sounded := State.sound_plan (s := s.planMoved p x off) moves_v rfl p.pair
      rw [sounded, paired, State.planMoved, cursorAfter_eq]
      rfl
    have cursor_v : v.out.cursor = if off < 479 then .head (off + 1) else .finished := cursorAfter_eq off
    have due : v.completionDue = true ↔ s.out.play ≠ .playing ∧ u.gain.fade = 0 := by
      rw [← sent]
      exact State.completionDue_iff moves_v
    refine ⟨fun inside => ?_, fun last fading silent => ?_, fun last loud => ?_⟩
    · have going : v.blockDone = false := by simp [State.blockDone, cursor_v, inside]
      rw [period, if_neg fun h => Bool.false_ne_true (going.symm.trans h.1), sent]
    · rw [period, if_neg fun h => Bool.false_ne_true (h.2.symm.trans (due.2 ⟨fading, silent⟩)), sent]
    · have done : v.blockDone = true := by
        rw [State.blockDone, moves_v, cursor_v, if_neg (by omega)]
        rfl
      have still : v.completionDue = false := by
        rw [← Bool.not_eq_true, due, not_and_or, not_not]
        exact loud
      rw [period, if_pos ⟨done, still⟩, State.boundary_eq v x rest held, ← State.blockConsumed_counted, sent]

end Sys2Proof.Machine
end

section
/-! SUPPORT. A run planned by its profile (spec/07). -/

namespace Sys2Proof.Machine

/-! ### The run and the choice between RAMP and the long action (R139, R140) -/

section
variable {x : Slot} {bad rest : List Slot}

/-- The run at the head: every bad slot behind it up to the first good one (R139). -/
theorem Store.run_eq {st : Store} (held : st.slots = x :: (bad ++ rest))
    (unread : ∀ y ∈ bad, y.quality = .damaged ∨ y.quality = .missing)
    (follows : ∀ y ∈ rest.head?, y.quality = .clean ∨ y.quality = .repaired) : st.run = x :: bad := by
  have ends : rest.takeWhile (fun y => !y.quality.readable) = [] := by
    cases rest with
    | nil => rfl
    | cons y ys =>
      have good : y.quality.readable = true := Quality.readable_iff.2 (follows y rfl)
      rw [List.takeWhile_cons, good]
      rfl
  have whole : (bad ++ rest).takeWhile (fun y => !y.quality.readable) = bad := by
    rw [List.takeWhile_append_of_pos, ends, List.append_nil]
    intro y among
    rw [Quality.not_readable_iff.2 (unread y among)]
    rfl
  rw [Store.run, held, List.tail_cons, whole]
  rfl

/-- A follower stands behind the run (R139). -/
abbrev State.followed (s : State) : Bool := decide (s.store.run.length < s.store.count)

theorem State.followed_iff {s : State} (held : s.store.slots = x :: (bad ++ rest)) (run : s.store.run = x :: bad) :
    s.followed = true ↔ rest ≠ [] := by
  rw [decide_eq_true_iff, run, Store.count, held, ← List.length_pos_iff, List.length_cons, List.length_cons,
    List.length_append]
  omega

/-- The profile by which a run that begins with a slot is planned (R140). -/
abbrev State.runProfile (s : State) (x : Slot) : Profile := s.table.profiles[(s.table.entry x.segment).profile]

/-- The run at the head qualifies for a RAMP (R140). -/
abbrev State.ramps (s : State) (x : Slot) : Prop :=
  s.store.run.length ≤ (s.runProfile x).rampLimit ∧ s.followed = true ∧ s.store.run.all (fun y => !y.cutAfter) = true

theorem State.ramps_iff {s : State} (held : s.store.slots = x :: (bad ++ rest)) (run : s.store.run = x :: bad) :
    s.ramps x ↔ bad.length + 1 ≤ (s.runProfile x).rampLimit ∧ rest ≠ [] ∧ ∀ y ∈ x :: bad, y.cutAfter = false := by
  rw [State.ramps, State.followed_iff held run, run, List.all_eq_true]
  simp only [Bool.not_eq_true', List.length_cons]

end

section
variable {s : State} {x : Slot} (off : Nat) (first : FirstSlot)

/-- A follower that reads well makes a RAMP (R140). -/
theorem State.planRun_ramp (ramps : s.ramps x) {pairs : List Pair}
    (read : s.store.readBlock s.store.run.length = some pairs) :
    s.planRun x off first = s.adopt
      (s.newPlan .ramp off (s.table.entry x.segment).profile (pairs.headD Pair.zero) none) x first false := by
  refine (if_pos ramps).trans ?_
  rw [read]

/-- A follower that fails its check word halts the part (R128, R151). -/
theorem State.planRun_halt (ramps : s.ramps x) (failed : s.store.readBlock s.store.run.length = none) :
    s.planRun x off first = State.post
      (State.haltedAsItStands { s with out := { s.out with cursor := .head off } })
      (.halted ⟨x.segment, x.address, off⟩ .ramp) := by
  refine (if_pos ramps).trans ?_
  rw [failed]
  exact State.halt_eq _ _ _

/-- Any other run takes the long action of its profile (R140, R145 to R147). -/
theorem State.planRun_long (long : ¬ s.ramps x) {kind : PlanKind} {fallback : Bool}
    (chosen : longKind (s.runProfile x).longAction s.followed = (kind, fallback)) :
    let step := longStep kind (s.runProfile x) (s.store.run.length * 480 - off)
    s.planRun x off first = (s.adopt
      (s.newPlan kind off (s.table.entry x.segment).profile Pair.zero step) x first fallback).beginPlan step := by
  obtain rfl : kind = (longKind (s.runProfile x).longAction s.followed).1 := (congrArg Prod.fst chosen).symm
  obtain rfl : fallback = (longKind (s.runProfile x).longAction s.followed).2 := (congrArg Prod.snd chosen).symm
  exact if_neg long

end

/-- Settles O56: the RAMP or the halt by the follower's read, the long plans by their action and follower. -/
theorem runsArePlannedByTheirProfile : Obligations.RunsArePlannedByTheirProfile := by
  intro s x bad rest off first held unread follows r samples index profile plan adopted faded muted fq ramps
  have run := Store.run_eq held unread follows
  have qualifies : s.ramps x ↔ ramps := State.ramps_iff held run
  have adopts (kind b step fallback) :
      s.adopt (s.newPlan kind off index b step) x first fallback = adopted kind b step fallback := by
    simp only [State.newPlan, run]
    rfl
  have length : s.store.run.length = r := congrArg List.length run
  refine ⟨fun y follower fits => ?_, fun long => ?_⟩
  · intro bytes
    obtain ⟨ys, rfl⟩ := List.head?_eq_some_iff.1 follower
    have at_r : s.store.slots[r]? = some y := by
      rw [held, List.getElem?_cons_succ, List.getElem?_append_right le_rfl, Nat.sub_self]
      rfl
    have read := s.store.readBlock_eq r y at_r
    rw [← adopts]
    refine ⟨fun passed => State.planRun_ramp off first (qualifies.2 fits) ?_,
      fun failed => State.planRun_halt off first (qualifies.2 fits) ?_⟩
    · rw [length, read]
      exact if_pos passed
    · rw [length, read]
      exact if_neg failed
  · have long := fun it => long (qualifies.1 it)
    have followed := State.followed_iff held run
    have planned {kind : PlanKind} {fallback : Bool} {step : Option Nat}
        (chosen : longKind profile.longAction s.followed = (kind, fallback))
        (steps : longStep kind profile samples = step) :
        s.planRun x off first = (adopted kind Pair.zero step fallback).beginPlan step := by
      rw [State.planRun_long off first long chosen, length, ← adopts, ← steps]
      rfl
    refine ⟨fun mute => ?_, fun drop more => ?_, fun fallback fade => ?_⟩
    · exact planned (by rw [mute, longKind]) rfl
    · intro step
      exact planned (by rw [drop, followed.2 more, longKind, if_pos rfl]) rfl
    · have chosen : longKind profile.longAction s.followed = (.fade, fallback) := by
        rcases fade with ⟨fade, rfl⟩ | ⟨drop, alone, rfl⟩
        · rw [fade]
          rfl
        · have last : s.followed = false := by
            rw [← Bool.not_eq_true, followed]
            exact not_not_intro alone
          rw [drop, last]
          rfl
      refine ⟨fun q length => ?_, fun short => ?_⟩
      · exact planned chosen (congrArg (Option.map stepOfLength) length)
      · exact planned chosen (congrArg (Option.map stepOfLength) short)

end Sys2Proof.Machine
end
